-- ==== Sys2Proof/Word.lean ====
section
/-! DEFINITION. The word types of the machine (spec 00_scope R6, R7, R9): bytes, 16-bit registers and
offsets, 24-bit addresses, and the two operation widths. Byte selection and the like stand in
Machine/Bits.lean. -/

namespace Sys2Proof

/-- An 8-bit value: a memory byte, a bank, an operand byte. -/
abbrev Byte := BitVec 8

/-- A 16-bit value: a register, an offset, a 16-bit operand. -/
abbrev Word := BitVec 16

/-- A 24-bit address, bank in bits 23 to 16 and offset in bits 15 to 0 (R7). -/
abbrev Addr := BitVec 24

/-- An operation width (R9): 8 or 16 bits. -/
inductive Width where
  | w8
  | w16
deriving DecidableEq, Repr

end Sys2Proof
end

