-- ==== Sys2Proof/Machine/Bits.lean ====
section
/-! DEFINITION. Byte selection, byte order, address forming and width helpers
(spec 00_scope R7-R10, 20_memory R84, 40_addressing_modes helper notation). -/

namespace Sys2Proof

/-- `v[7:0]`. -/
def loByte (v : Word) : Byte := v.extractLsb' 0 8

/-- `v[15:8]`. -/
def hiByte (v : Word) : Byte := v.extractLsb' 8 8

/-- `hi:lo` of two bytes (R7, R84). -/
def wordOf (hi lo : Byte) : Word := hi ++ lo

/-- `zext_16` of a byte. -/
def zextByte (v : Byte) : Word := v.setWidth 16

/-- `sext_16` of a byte. -/
def sextByte (v : Byte) : Word := v.signExtend 16

/-- `bank:offset` (R7). -/
def addrOf (bank : Byte) (offset : Word) : Addr := bank ++ offset

/-- `a[23:16]`. -/
def bankOf (a : Addr) : Byte := a.extractLsb' 16 8

/-- `a[15:0]`. -/
def offsetOf (a : Addr) : Word := a.extractLsb' 0 16

/-- `hi:mid:lo` of three bytes, the third fetched as the bank (R12 Fetch24, R148, R158). -/
def longOf (hi mid lo : Byte) : Addr := addrOf hi (wordOf mid lo)

/-- The source's "page wrap": the offset wraps, the bank stays (40_addressing_modes `inbank_next`). -/
def inbankNext (a : Addr) : Addr := addrOf (bankOf a) (offsetOf a + 1)

/-- The source's "bank wrap": offset overflow carries into the bank (40_addressing_modes `next24`). -/
def next24 (a : Addr) : Addr := a + 1

/-- `(a + idx) mod 2^24`, the index unsigned. -/
def addIndex (a : Addr) (idx : Word) : Addr := a + idx.setWidth 24

/-- The number of bits of a width (R9). -/
def Width.bits : Width → Nat
  | .w8 => 8
  | .w16 => 16

/-- The number of bytes of a width. -/
def Width.bytes : Width → Nat
  | .w8 => 1
  | .w16 => 2

/-- `wA` and `wX` of R9: flag 1 means 8 bits. -/
def Width.ofFlag (narrow : Bool) : Width := if narrow then .w8 else .w16

/-- A value "at width w": `v mod 2^w` (R9), kept in 16 bits. -/
def Width.trunc : Width → Word → Word
  | .w8, v => zextByte (loByte v)
  | .w16, v => v

/-- The sign bit `v[w-1]` of a value at width w (R9). -/
def Width.sign (w : Width) (v : Word) : Bool := v.getLsbD (w.bits - 1)

/-- Writes a value at width w into a 16-bit register: at width 8 the high byte stays (R10). -/
def Width.merge : Width → (old v : Word) → Word
  | .w8, old, v => wordOf (hiByte old) (loByte v)
  | .w16, _, v => v

end Sys2Proof
end

