-- ==== Sys2Proof/Machine/Flags.lean ====
section
/-! DEFINITION. The adders and the flag computations (spec 42_arith_logic R242-R245, R248, R263-R266) on values at a width.
Sums are taken on unbounded integers and narrowed at the end. -/

namespace Sys2Proof.Machine

/-- A result with its carry and overflow. -/
structure AluResult where
  value : Word
  carry : Bool
  overflow : Bool
deriving DecidableEq, Repr

/-- `BinAdd(a, b, c, w)` (R242). -/
def binAdd (w : Width) (a b : Word) (c : Bool) : AluResult :=
  let r := a.toNat + b.toNat + c.toNat
  let res := BitVec.ofNat 16 (r % 2 ^ w.bits)
  { value := res, carry := decide (2 ^ w.bits ≤ r), overflow := w.sign ((a ^^^ res) &&& (b ^^^ res)) }

/-- `BinSub(a, b, c, w)` (R244): the carry means no borrow. -/
def binSub (w : Width) (a b : Word) (c : Bool) : AluResult :=
  let r : Int := (a.toNat : Int) - b.toNat - (1 - c.toNat)
  let res := BitVec.ofInt 16 (r % 2 ^ w.bits)
  { value := res, carry := decide (0 ≤ r), overflow := w.sign ((a ^^^ b) &&& (a ^^^ res)) }

/-- The digits of `DecAdd` (R243), k nibbles from the least significant, with a carry of 0 or 1: the sum and the carry out. -/
def decAddDigits : Nat → Nat → Nat → Nat → Nat × Nat
  | 0, _, _, carry => (0, carry)
  | k + 1, a, b, carry =>
    let s := a % 16 + b % 16 + carry
    let digit := if 10 ≤ s then (s - 10) % 16 else s
    let high := decAddDigits k (a / 16) (b / 16) (if 10 ≤ s then 1 else 0)
    (digit + 16 * high.1, high.2)

/-- The digits of `DecSub` (R245), k nibbles from the least significant, with a borrow of 0 or 1: the difference and the borrow
out. -/
def decSubDigits : Nat → Nat → Nat → Nat → Nat × Nat
  | 0, _, _, borrow => (0, borrow)
  | k + 1, a, b, borrow =>
    let t : Int := (a % 16 : Nat) - (b % 16 : Nat) - (borrow : Nat)
    let digit := if t < 0 then ((t + 10) % 16).toNat else t.toNat
    let high := decSubDigits k (a / 16) (b / 16) (if t < 0 then 1 else 0)
    (digit + 16 * high.1, high.2)

/-- The result and carry of `DecAdd(a, b, c, w)` (R243). -/
def decAdd (w : Width) (a b : Word) (c : Bool) : Word × Bool :=
  let r := decAddDigits (w.bits / 4) a.toNat b.toNat c.toNat
  (BitVec.ofNat 16 r.1, decide (r.2 = 1))

/-- The result and carry, meaning no borrow, of `DecSub(a, b, c, w)` (R245). -/
def decSub (w : Width) (a b : Word) (c : Bool) : Word × Bool :=
  let r := decSubDigits (w.bits / 4) a.toNat b.toNat (1 - c.toNat)
  (BitVec.ofNat 16 r.1, decide (r.2 = 0))

/-- ADC's result (R246): decimal mode corrects value and carry, overflow stays that of the binary sum (D13). -/
def adcResult (w : Width) (decimal : Bool) (a b : Word) (c : Bool) : AluResult :=
  let bin := binAdd w a b c
  if decimal then { value := (decAdd w a b c).1, carry := (decAdd w a b c).2, overflow := bin.overflow } else bin

/-- SBC's result (R247). -/
def sbcResult (w : Width) (decimal : Bool) (a b : Word) (c : Bool) : AluResult :=
  let bin := binSub w a b c
  if decimal then { value := (decSub w a b c).1, carry := (decSub w a b c).2, overflow := bin.overflow } else bin

/-- ASL's result and carry (R263). -/
def aslResult (w : Width) (v : Word) : Word × Bool := (w.trunc (v <<< 1), w.sign v)

/-- LSR's result and carry (R264). -/
def lsrResult (_ : Width) (v : Word) : Word × Bool := (v >>> 1, v.getLsbD 0)

/-- ROL's result and carry (R265). -/
def rolResult (w : Width) (cin : Bool) (v : Word) : Word × Bool :=
  (w.trunc (v <<< 1 ||| BitVec.ofNat 16 cin.toNat), w.sign v)

/-- ROR's result and carry (R266). -/
def rorResult (w : Width) (cin : Bool) (v : Word) : Word × Bool :=
  (v >>> 1 ||| BitVec.ofNat 16 cin.toNat <<< (w.bits - 1), v.getLsbD 0)

end Sys2Proof.Machine
end

