-- ==== Sys2Proof/Config.lean ====
section
/-! DEFINITION. The named parameters of the spec (00_scope R6, 92_eei_decisions), as plain data that a state
carries and no step changes, and the free values of unfixed timing. The free values that take the state or the
history of memory, `Config.freeCost` and `Config.busByte`, stand in Machine/Loop.lean and Machine/Ops.lean. -/

namespace Sys2Proof

/-- `P_WDM` (R6, R119, D4): what opcode 0x42 does. -/
inductive WdmPolicy where
  | fault
  | nop2
deriving DecidableEq, Repr

/-- `P_BLOCK_ROLES` (R6, R166, D27): which index register addresses which end of a block move. -/
inductive BlockRoles where
  | architecture
  | docTable
deriving DecidableEq, Repr

/-- `P_VECTORS` (R6, R443, D17): the vector addresses that are parameters. Native BRK and COP are fixed by the
spec and are not here (Machine/Ops.lean `vectorAddr`); ABORT and RESET are never used (R445). -/
structure Vectors where
  nmiNative : Word
  irqNative : Word
  copEmulation : Word
  brkEmulation : Word
  nmiEmulation : Word
  irqEmulation : Word
deriving DecidableEq, Repr

/-- `P_MEM` (R6, R81, R450, D24): the memory behind the contract of R81. -/
inductive MemoryRule where
  /-- Plain RAM, the default: the cells of the state, which are `P_MEM0` at launch. -/
  | ram
  /-- A collaborator `P_MEM` in its place. What it answers is a free value, `Config.busByte` in Machine/Ops.lean (log entry 8). -/
  | bus
deriving DecidableEq, Repr

/-- `P_COST` (R6, R435, D20): any positive function of the opcode and the state (`Config.freeCost`), or a table with
one entry per opcode. -/
inductive CostRule where
  | free
  | table (costs : List Nat)
deriving DecidableEq, Repr

/-- How polls fall (R435, R437, D20; log entry 3). -/
inductive Timing where
  /-- `P_COST` and `P_POLL` are not fixed: whether a Running step ends with a poll is a free draw, and nothing reads
  `cyc` (R437). -/
  | draw
  /-- `P_COST` and `P_POLL` are given, and the budget of R435 decides. -/
  | budget (cost : CostRule) (poll : Nat)
deriving DecidableEq, Repr

/-- The parameters of R6 but for the image `P_MEM0`: `P_ENTRY`, `P_MEM`, `P_DP_EXEMPT`, `P_WDM`, `P_VECTORS`,
`P_BLOCK_ROLES`, and `P_COST` with `P_POLL`. -/
structure Params where
  entry : Addr
  memory : MemoryRule
  dpExempt : Option Byte
  wdm : WdmPolicy
  vectors : Vectors
  blockRoles : BlockRoles
  timing : Timing
deriving DecidableEq, Repr

/-- The free value for `P_POLL` where it is not fixed (R6, D20; log entry 3). -/
opaque Config.freePoll : Nat

/-- The draws of R437: whether the Running step that made the n-th draw ends with a poll (log entry 3). -/
opaque Config.pollDraw : Nat → Bool

/-- What `cyc` holds after the Running step that made the n-th draw, where costs are not fixed (R437; log entry 3). -/
opaque Config.cycDraw : Nat → Int

/-- The default vector table of R443. -/
def Vectors.default : Vectors :=
  { nmiNative := 0xFFEA, irqNative := 0xFFEE, copEmulation := 0xFFF4, brkEmulation := 0xFFFE,
    nmiEmulation := 0xFFFA, irqEmulation := 0xFFFE }

/-- The defaults of R6. `P_ENTRY` has none: 0x00:8000 is a DESIGN CHOICE (log entry 2). `P_COST` and `P_POLL` have
none: polls are a draw (log entry 3). -/
def Params.default : Params :=
  { entry := 0x008000, memory := .ram, dpExempt := none, wdm := .fault, vectors := Vectors.default,
    blockRoles := .architecture, timing := .draw }

end Sys2Proof
end

