-- ==== Sys2Proof/Syntax.lean ====
section
/-! DEFINITION. The instructions as data (spec 30_encoding R111-R117): one constructor per row of the opcode map
R116, those with an operand first and then those without one, each in opcode order, carrying the operand bytes assembled as R114 says. The addressing-mode tags and the
mnemonics are enumerations of their own. -/

namespace Sys2Proof

/-- The 27 addressing-mode tags of R113. -/
inductive Tag where
  | immM
  | immX
  | imm8
  | imm16
  | dp
  | dpX
  | dpY
  | dpInd
  | dpIndL
  | dpXInd
  | dpIndY
  | dpIndLY
  | abs
  | absX
  | absY
  | long
  | longX
  | absInd
  | absIndL
  | absXInd
  | sr
  | srIndY
  | rel8
  | rel16
  | acc
  | imp
  | blk
deriving DecidableEq, Repr

/-- The 92 mnemonics of R116. -/
inductive Mnemonic where
  | brk
  | ora
  | cop
  | tsb
  | asl
  | php
  | phd
  | bpl
  | trb
  | clc
  | inc
  | tcs
  | jsr
  | and
  | jsl
  | bit
  | rol
  | plp
  | pld
  | bmi
  | sec
  | dec
  | tsc
  | rti
  | eor
  | wdm
  | mvp
  | lsr
  | pha
  | phk
  | jmp
  | bvc
  | mvn
  | cli
  | phy
  | tcd
  | jml
  | rts
  | adc
  | per
  | stz
  | ror
  | pla
  | rtl
  | bvs
  | sei
  | ply
  | tdc
  | bra
  | sta
  | brl
  | sty
  | stx
  | dey
  | txa
  | phb
  | bcc
  | tya
  | txs
  | txy
  | ldy
  | lda
  | ldx
  | tay
  | tax
  | plb
  | bcs
  | clv
  | tsx
  | tyx
  | cpy
  | cmp
  | rep
  | iny
  | dex
  | wai
  | bne
  | pei
  | cld
  | phx
  | stp
  | cpx
  | sbc
  | sep
  | inx
  | nop
  | xba
  | beq
  | pea
  | sed
  | plx
  | xce
deriving DecidableEq, Repr

/-- The operand bytes of an instruction, assembled as R114 says. -/
inductive Payload where
  | none
  | byte (v : Byte)
  | word (v : Word)
  | long (v : Addr)
  | banks (dst src : Byte)
deriving DecidableEq, Repr

/-- One constructor per row of R116. An IMM_M or IMM_X immediate is held zero-extended to 16 bits (R114); its
width, and so the instruction's length, is that of m or x when the instruction is decoded and executed (R122). The
block moves hold the destination bank first, as the object code does (R114). -/
inductive Instr where
  /-- 0x00 BRK #const -/
  | brk (sig : Byte)
  /-- 0x01 ORA (dp,X) -/
  | oraDpXInd (ll : Byte)
  /-- 0x02 COP #const -/
  | cop (sig : Byte)
  /-- 0x03 ORA sr,S -/
  | oraSr (ll : Byte)
  /-- 0x04 TSB dp -/
  | tsbDp (ll : Byte)
  /-- 0x05 ORA dp -/
  | oraDp (ll : Byte)
  /-- 0x06 ASL dp -/
  | aslDp (ll : Byte)
  /-- 0x07 ORA [dp] -/
  | oraDpIndL (ll : Byte)
  /-- 0x09 ORA #const -/
  | oraImm (imm : Word)
  /-- 0x0C TSB addr -/
  | tsbAbs (hhll : Word)
  /-- 0x0D ORA addr -/
  | oraAbs (hhll : Word)
  /-- 0x0E ASL addr -/
  | aslAbs (hhll : Word)
  /-- 0x0F ORA long -/
  | oraLong (addr : Addr)
  /-- 0x10 BPL nearlabel -/
  | bpl (d : Byte)
  /-- 0x11 ORA (dp),Y -/
  | oraDpIndY (ll : Byte)
  /-- 0x12 ORA (dp) -/
  | oraDpInd (ll : Byte)
  /-- 0x13 ORA (sr,S),Y -/
  | oraSrIndY (ll : Byte)
  /-- 0x14 TRB dp -/
  | trbDp (ll : Byte)
  /-- 0x15 ORA dp,X -/
  | oraDpX (ll : Byte)
  /-- 0x16 ASL dp,X -/
  | aslDpX (ll : Byte)
  /-- 0x17 ORA [dp],Y -/
  | oraDpIndLY (ll : Byte)
  /-- 0x19 ORA addr,Y -/
  | oraAbsY (hhll : Word)
  /-- 0x1C TRB addr -/
  | trbAbs (hhll : Word)
  /-- 0x1D ORA addr,X -/
  | oraAbsX (hhll : Word)
  /-- 0x1E ASL addr,X -/
  | aslAbsX (hhll : Word)
  /-- 0x1F ORA long,X -/
  | oraLongX (addr : Addr)
  /-- 0x20 JSR addr -/
  | jsrAbs (hhll : Word)
  /-- 0x21 AND (dp,X) -/
  | andDpXInd (ll : Byte)
  /-- 0x22 JSL long -/
  | jsl (addr : Addr)
  /-- 0x23 AND sr,S -/
  | andSr (ll : Byte)
  /-- 0x24 BIT dp -/
  | bitDp (ll : Byte)
  /-- 0x25 AND dp -/
  | andDp (ll : Byte)
  /-- 0x26 ROL dp -/
  | rolDp (ll : Byte)
  /-- 0x27 AND [dp] -/
  | andDpIndL (ll : Byte)
  /-- 0x29 AND #const -/
  | andImm (imm : Word)
  /-- 0x2C BIT addr -/
  | bitAbs (hhll : Word)
  /-- 0x2D AND addr -/
  | andAbs (hhll : Word)
  /-- 0x2E ROL addr -/
  | rolAbs (hhll : Word)
  /-- 0x2F AND long -/
  | andLong (addr : Addr)
  /-- 0x30 BMI nearlabel -/
  | bmi (d : Byte)
  /-- 0x31 AND (dp),Y -/
  | andDpIndY (ll : Byte)
  /-- 0x32 AND (dp) -/
  | andDpInd (ll : Byte)
  /-- 0x33 AND (sr,S),Y -/
  | andSrIndY (ll : Byte)
  /-- 0x34 BIT dp,X -/
  | bitDpX (ll : Byte)
  /-- 0x35 AND dp,X -/
  | andDpX (ll : Byte)
  /-- 0x36 ROL dp,X -/
  | rolDpX (ll : Byte)
  /-- 0x37 AND [dp],Y -/
  | andDpIndLY (ll : Byte)
  /-- 0x39 AND addr,Y -/
  | andAbsY (hhll : Word)
  /-- 0x3C BIT addr,X -/
  | bitAbsX (hhll : Word)
  /-- 0x3D AND addr,X -/
  | andAbsX (hhll : Word)
  /-- 0x3E ROL addr,X -/
  | rolAbsX (hhll : Word)
  /-- 0x3F AND long,X -/
  | andLongX (addr : Addr)
  /-- 0x41 EOR (dp,X) -/
  | eorDpXInd (ll : Byte)
  /-- 0x42 WDM #const -/
  | wdm (sig : Byte)
  /-- 0x43 EOR sr,S -/
  | eorSr (ll : Byte)
  /-- 0x44 MVP srcbk,destbk -/
  | mvp (dst src : Byte)
  /-- 0x45 EOR dp -/
  | eorDp (ll : Byte)
  /-- 0x46 LSR dp -/
  | lsrDp (ll : Byte)
  /-- 0x47 EOR [dp] -/
  | eorDpIndL (ll : Byte)
  /-- 0x49 EOR #const -/
  | eorImm (imm : Word)
  /-- 0x4C JMP addr -/
  | jmpAbs (hhll : Word)
  /-- 0x4D EOR addr -/
  | eorAbs (hhll : Word)
  /-- 0x4E LSR addr -/
  | lsrAbs (hhll : Word)
  /-- 0x4F EOR long -/
  | eorLong (addr : Addr)
  /-- 0x50 BVC nearlabel -/
  | bvc (d : Byte)
  /-- 0x51 EOR (dp),Y -/
  | eorDpIndY (ll : Byte)
  /-- 0x52 EOR (dp) -/
  | eorDpInd (ll : Byte)
  /-- 0x53 EOR (sr,S),Y -/
  | eorSrIndY (ll : Byte)
  /-- 0x54 MVN srcbk,destbk -/
  | mvn (dst src : Byte)
  /-- 0x55 EOR dp,X -/
  | eorDpX (ll : Byte)
  /-- 0x56 LSR dp,X -/
  | lsrDpX (ll : Byte)
  /-- 0x57 EOR [dp],Y -/
  | eorDpIndLY (ll : Byte)
  /-- 0x59 EOR addr,Y -/
  | eorAbsY (hhll : Word)
  /-- 0x5C JML long -/
  | jmlLong (addr : Addr)
  /-- 0x5D EOR addr,X -/
  | eorAbsX (hhll : Word)
  /-- 0x5E LSR addr,X -/
  | lsrAbsX (hhll : Word)
  /-- 0x5F EOR long,X -/
  | eorLongX (addr : Addr)
  /-- 0x61 ADC (dp,X) -/
  | adcDpXInd (ll : Byte)
  /-- 0x62 PER label -/
  | per (d : Word)
  /-- 0x63 ADC sr,S -/
  | adcSr (ll : Byte)
  /-- 0x64 STZ dp -/
  | stzDp (ll : Byte)
  /-- 0x65 ADC dp -/
  | adcDp (ll : Byte)
  /-- 0x66 ROR dp -/
  | rorDp (ll : Byte)
  /-- 0x67 ADC [dp] -/
  | adcDpIndL (ll : Byte)
  /-- 0x69 ADC #const -/
  | adcImm (imm : Word)
  /-- 0x6C JMP (addr) -/
  | jmpAbsInd (hhll : Word)
  /-- 0x6D ADC addr -/
  | adcAbs (hhll : Word)
  /-- 0x6E ROR addr -/
  | rorAbs (hhll : Word)
  /-- 0x6F ADC long -/
  | adcLong (addr : Addr)
  /-- 0x70 BVS nearlabel -/
  | bvs (d : Byte)
  /-- 0x71 ADC (dp),Y -/
  | adcDpIndY (ll : Byte)
  /-- 0x72 ADC (dp) -/
  | adcDpInd (ll : Byte)
  /-- 0x73 ADC (sr,S),Y -/
  | adcSrIndY (ll : Byte)
  /-- 0x74 STZ dp,X -/
  | stzDpX (ll : Byte)
  /-- 0x75 ADC dp,X -/
  | adcDpX (ll : Byte)
  /-- 0x76 ROR dp,X -/
  | rorDpX (ll : Byte)
  /-- 0x77 ADC [dp],Y -/
  | adcDpIndLY (ll : Byte)
  /-- 0x79 ADC addr,Y -/
  | adcAbsY (hhll : Word)
  /-- 0x7C JMP (addr,X) -/
  | jmpAbsXInd (hhll : Word)
  /-- 0x7D ADC addr,X -/
  | adcAbsX (hhll : Word)
  /-- 0x7E ROR addr,X -/
  | rorAbsX (hhll : Word)
  /-- 0x7F ADC long,X -/
  | adcLongX (addr : Addr)
  /-- 0x80 BRA nearlabel -/
  | bra (d : Byte)
  /-- 0x81 STA (dp,X) -/
  | staDpXInd (ll : Byte)
  /-- 0x82 BRL label -/
  | brl (d : Word)
  /-- 0x83 STA sr,S -/
  | staSr (ll : Byte)
  /-- 0x84 STY dp -/
  | styDp (ll : Byte)
  /-- 0x85 STA dp -/
  | staDp (ll : Byte)
  /-- 0x86 STX dp -/
  | stxDp (ll : Byte)
  /-- 0x87 STA [dp] -/
  | staDpIndL (ll : Byte)
  /-- 0x89 BIT #const -/
  | bitImm (imm : Word)
  /-- 0x8C STY addr -/
  | styAbs (hhll : Word)
  /-- 0x8D STA addr -/
  | staAbs (hhll : Word)
  /-- 0x8E STX addr -/
  | stxAbs (hhll : Word)
  /-- 0x8F STA long -/
  | staLong (addr : Addr)
  /-- 0x90 BCC nearlabel -/
  | bcc (d : Byte)
  /-- 0x91 STA (dp),Y -/
  | staDpIndY (ll : Byte)
  /-- 0x92 STA (dp) -/
  | staDpInd (ll : Byte)
  /-- 0x93 STA (sr,S),Y -/
  | staSrIndY (ll : Byte)
  /-- 0x94 STY dp,X -/
  | styDpX (ll : Byte)
  /-- 0x95 STA dp,X -/
  | staDpX (ll : Byte)
  /-- 0x96 STX dp,Y -/
  | stxDpY (ll : Byte)
  /-- 0x97 STA [dp],Y -/
  | staDpIndLY (ll : Byte)
  /-- 0x99 STA addr,Y -/
  | staAbsY (hhll : Word)
  /-- 0x9C STZ addr -/
  | stzAbs (hhll : Word)
  /-- 0x9D STA addr,X -/
  | staAbsX (hhll : Word)
  /-- 0x9E STZ addr,X -/
  | stzAbsX (hhll : Word)
  /-- 0x9F STA long,X -/
  | staLongX (addr : Addr)
  /-- 0xA0 LDY #const -/
  | ldyImm (imm : Word)
  /-- 0xA1 LDA (dp,X) -/
  | ldaDpXInd (ll : Byte)
  /-- 0xA2 LDX #const -/
  | ldxImm (imm : Word)
  /-- 0xA3 LDA sr,S -/
  | ldaSr (ll : Byte)
  /-- 0xA4 LDY dp -/
  | ldyDp (ll : Byte)
  /-- 0xA5 LDA dp -/
  | ldaDp (ll : Byte)
  /-- 0xA6 LDX dp -/
  | ldxDp (ll : Byte)
  /-- 0xA7 LDA [dp] -/
  | ldaDpIndL (ll : Byte)
  /-- 0xA9 LDA #const -/
  | ldaImm (imm : Word)
  /-- 0xAC LDY addr -/
  | ldyAbs (hhll : Word)
  /-- 0xAD LDA addr -/
  | ldaAbs (hhll : Word)
  /-- 0xAE LDX addr -/
  | ldxAbs (hhll : Word)
  /-- 0xAF LDA long -/
  | ldaLong (addr : Addr)
  /-- 0xB0 BCS nearlabel -/
  | bcs (d : Byte)
  /-- 0xB1 LDA (dp),Y -/
  | ldaDpIndY (ll : Byte)
  /-- 0xB2 LDA (dp) -/
  | ldaDpInd (ll : Byte)
  /-- 0xB3 LDA (sr,S),Y -/
  | ldaSrIndY (ll : Byte)
  /-- 0xB4 LDY dp,X -/
  | ldyDpX (ll : Byte)
  /-- 0xB5 LDA dp,X -/
  | ldaDpX (ll : Byte)
  /-- 0xB6 LDX dp,Y -/
  | ldxDpY (ll : Byte)
  /-- 0xB7 LDA [dp],Y -/
  | ldaDpIndLY (ll : Byte)
  /-- 0xB9 LDA addr,Y -/
  | ldaAbsY (hhll : Word)
  /-- 0xBC LDY addr,X -/
  | ldyAbsX (hhll : Word)
  /-- 0xBD LDA addr,X -/
  | ldaAbsX (hhll : Word)
  /-- 0xBE LDX addr,Y -/
  | ldxAbsY (hhll : Word)
  /-- 0xBF LDA long,X -/
  | ldaLongX (addr : Addr)
  /-- 0xC0 CPY #const -/
  | cpyImm (imm : Word)
  /-- 0xC1 CMP (dp,X) -/
  | cmpDpXInd (ll : Byte)
  /-- 0xC2 REP #const -/
  | rep (mask : Byte)
  /-- 0xC3 CMP sr,S -/
  | cmpSr (ll : Byte)
  /-- 0xC4 CPY dp -/
  | cpyDp (ll : Byte)
  /-- 0xC5 CMP dp -/
  | cmpDp (ll : Byte)
  /-- 0xC6 DEC dp -/
  | decDp (ll : Byte)
  /-- 0xC7 CMP [dp] -/
  | cmpDpIndL (ll : Byte)
  /-- 0xC9 CMP #const -/
  | cmpImm (imm : Word)
  /-- 0xCC CPY addr -/
  | cpyAbs (hhll : Word)
  /-- 0xCD CMP addr -/
  | cmpAbs (hhll : Word)
  /-- 0xCE DEC addr -/
  | decAbs (hhll : Word)
  /-- 0xCF CMP long -/
  | cmpLong (addr : Addr)
  /-- 0xD0 BNE nearlabel -/
  | bne (d : Byte)
  /-- 0xD1 CMP (dp),Y -/
  | cmpDpIndY (ll : Byte)
  /-- 0xD2 CMP (dp) -/
  | cmpDpInd (ll : Byte)
  /-- 0xD3 CMP (sr,S),Y -/
  | cmpSrIndY (ll : Byte)
  /-- 0xD4 PEI (dp) -/
  | pei (ll : Byte)
  /-- 0xD5 CMP dp,X -/
  | cmpDpX (ll : Byte)
  /-- 0xD6 DEC dp,X -/
  | decDpX (ll : Byte)
  /-- 0xD7 CMP [dp],Y -/
  | cmpDpIndLY (ll : Byte)
  /-- 0xD9 CMP addr,Y -/
  | cmpAbsY (hhll : Word)
  /-- 0xDC JML [addr] -/
  | jmlAbsIndL (hhll : Word)
  /-- 0xDD CMP addr,X -/
  | cmpAbsX (hhll : Word)
  /-- 0xDE DEC addr,X -/
  | decAbsX (hhll : Word)
  /-- 0xDF CMP long,X -/
  | cmpLongX (addr : Addr)
  /-- 0xE0 CPX #const -/
  | cpxImm (imm : Word)
  /-- 0xE1 SBC (dp,X) -/
  | sbcDpXInd (ll : Byte)
  /-- 0xE2 SEP #const -/
  | sep (mask : Byte)
  /-- 0xE3 SBC sr,S -/
  | sbcSr (ll : Byte)
  /-- 0xE4 CPX dp -/
  | cpxDp (ll : Byte)
  /-- 0xE5 SBC dp -/
  | sbcDp (ll : Byte)
  /-- 0xE6 INC dp -/
  | incDp (ll : Byte)
  /-- 0xE7 SBC [dp] -/
  | sbcDpIndL (ll : Byte)
  /-- 0xE9 SBC #const -/
  | sbcImm (imm : Word)
  /-- 0xEC CPX addr -/
  | cpxAbs (hhll : Word)
  /-- 0xED SBC addr -/
  | sbcAbs (hhll : Word)
  /-- 0xEE INC addr -/
  | incAbs (hhll : Word)
  /-- 0xEF SBC long -/
  | sbcLong (addr : Addr)
  /-- 0xF0 BEQ nearlabel -/
  | beq (d : Byte)
  /-- 0xF1 SBC (dp),Y -/
  | sbcDpIndY (ll : Byte)
  /-- 0xF2 SBC (dp) -/
  | sbcDpInd (ll : Byte)
  /-- 0xF3 SBC (sr,S),Y -/
  | sbcSrIndY (ll : Byte)
  /-- 0xF4 PEA addr -/
  | pea (imm : Word)
  /-- 0xF5 SBC dp,X -/
  | sbcDpX (ll : Byte)
  /-- 0xF6 INC dp,X -/
  | incDpX (ll : Byte)
  /-- 0xF7 SBC [dp],Y -/
  | sbcDpIndLY (ll : Byte)
  /-- 0xF9 SBC addr,Y -/
  | sbcAbsY (hhll : Word)
  /-- 0xFC JSR (addr,X) -/
  | jsrAbsXInd (hhll : Word)
  /-- 0xFD SBC addr,X -/
  | sbcAbsX (hhll : Word)
  /-- 0xFE INC addr,X -/
  | incAbsX (hhll : Word)
  /-- 0xFF SBC long,X -/
  | sbcLongX (addr : Addr)
  /-- 0x08 PHP -/
  | php
  /-- 0x0A ASL A -/
  | aslAcc
  /-- 0x0B PHD -/
  | phd
  /-- 0x18 CLC -/
  | clc
  /-- 0x1A INC A -/
  | incAcc
  /-- 0x1B TCS -/
  | tcs
  /-- 0x28 PLP -/
  | plp
  /-- 0x2A ROL A -/
  | rolAcc
  /-- 0x2B PLD -/
  | pld
  /-- 0x38 SEC -/
  | sec
  /-- 0x3A DEC A -/
  | decAcc
  /-- 0x3B TSC -/
  | tsc
  /-- 0x40 RTI -/
  | rti
  /-- 0x48 PHA -/
  | pha
  /-- 0x4A LSR A -/
  | lsrAcc
  /-- 0x4B PHK -/
  | phk
  /-- 0x58 CLI -/
  | cli
  /-- 0x5A PHY -/
  | phy
  /-- 0x5B TCD -/
  | tcd
  /-- 0x60 RTS -/
  | rts
  /-- 0x68 PLA -/
  | pla
  /-- 0x6A ROR A -/
  | rorAcc
  /-- 0x6B RTL -/
  | rtl
  /-- 0x78 SEI -/
  | sei
  /-- 0x7A PLY -/
  | ply
  /-- 0x7B TDC -/
  | tdc
  /-- 0x88 DEY -/
  | dey
  /-- 0x8A TXA -/
  | txa
  /-- 0x8B PHB -/
  | phb
  /-- 0x98 TYA -/
  | tya
  /-- 0x9A TXS -/
  | txs
  /-- 0x9B TXY -/
  | txy
  /-- 0xA8 TAY -/
  | tay
  /-- 0xAA TAX -/
  | tax
  /-- 0xAB PLB -/
  | plb
  /-- 0xB8 CLV -/
  | clv
  /-- 0xBA TSX -/
  | tsx
  /-- 0xBB TYX -/
  | tyx
  /-- 0xC8 INY -/
  | iny
  /-- 0xCA DEX -/
  | dex
  /-- 0xCB WAI -/
  | wai
  /-- 0xD8 CLD -/
  | cld
  /-- 0xDA PHX -/
  | phx
  /-- 0xDB STP -/
  | stp
  /-- 0xE8 INX -/
  | inx
  /-- 0xEA NOP -/
  | nop
  /-- 0xEB XBA -/
  | xba
  /-- 0xF8 SED -/
  | sed
  /-- 0xFA PLX -/
  | plx
  /-- 0xFB XCE -/
  | xce
deriving DecidableEq, Repr

end Sys2Proof
end

