-- ==== Sys2Proof/Machine/State.lean ====
section
/-! DEFINITION. The state of the machine as plain data (spec 10_state R31-R56, 20_memory R81, 60_exceptions R446,
R447, 70_reset_and_hazards R482), the reasons a step can stop, construction and the reset state. -/

namespace Sys2Proof.Machine

/-- Memory: the (address, byte) cells that are not zero, addresses strictly rising (`Memory.wf` in Machine/Ops.lean). An address
that is not listed reads as 0x00 (log entry 1). Any image `P_MEM0` of 2^24 bytes is such a list. -/
abbrev Memory := List Host.Cell

/-- An event at a memory collaborator `P_MEM` (R81, R96, R97): a byte access of the core, or something that a component
behind it did between two steps. -/
inductive BusEvent where
  | read (addr : Addr)
  | write (addr : Addr) (value : Byte)
  | outside (event : Nat)
deriving DecidableEq, Repr

/-- The status flags (R39): a record of booleans. `m` and `x` true mean 8 bits. -/
structure Flags where
  /-- carry (R40) -/
  c : Bool
  /-- zero (R41) -/
  z : Bool
  /-- negative (R41) -/
  n : Bool
  /-- overflow (R42) -/
  v : Bool
  /-- decimal (R43) -/
  d : Bool
  /-- interrupt disable (R43) -/
  i : Bool
  /-- break (R48) -/
  b : Bool
  /-- emulation mode (R44) -/
  e : Bool
  /-- accumulator width (R44) -/
  m : Bool
  /-- index width (R44) -/
  x : Bool
deriving DecidableEq, Repr

/-- The kinds of fault the spec names (R447). -/
inductive FaultKind where
  /-- The opcode byte has no handler: only 0x42 under `P_WDM = fault`. -/
  | unmappedOpcode
  /-- A rule resolves a tag it cannot use: unreachable (R124), kept for totality. -/
  | invalidModePairing (tag : Tag)
  /-- An access out of range: unreachable (R82), kept for totality. -/
  | memoryOutOfRange (addr : Addr)
deriving DecidableEq, Repr

/-- The run state (R53, R446). -/
inductive RunState where
  | running
  | halted
  | terminated
  | faulted (kind : FaultKind) (bank : Byte) (offset : Word) (opcode : Byte)
deriving DecidableEq, Repr

/-- Everything the spec gives the machine (INVENTORY.md lists it by rule). -/
structure State where
  /-- accumulator (R32) -/
  a : Word
  /-- index register X (R33) -/
  x : Word
  /-- index register Y (R33) -/
  y : Word
  /-- stack pointer (R34) -/
  sp : Word
  /-- direct register (R35) -/
  d : Word
  /-- data bank register (R36) -/
  dbr : Byte
  /-- program bank register (R37) -/
  pbr : Byte
  /-- program counter (R38) -/
  pc : Word
  /-- status flags (R39) -/
  p : Flags
  /-- run state (R53) -/
  run : RunState
  /-- cycle-budget counter (R54) -/
  cyc : Int
  /-- the host's exit request (R55) -/
  exitRequest : Bool
  /-- the NMI latch (R55) -/
  nmiPending : Bool
  /-- the IRQ level (R55) -/
  irqLine : Bool
  /-- plain RAM (R81); the image `P_MEM0` where a collaborator stands in its place -/
  mem : Memory
  /-- the history of the collaborator `P_MEM`, newest first (R81, R96); plain RAM has none (log entry 8) -/
  bus : List BusEvent
  /-- the model's own count of the draws of R437 made so far, where timing is not fixed (log entry 3) -/
  draws : Nat
  /-- the parameters of R6, which no step changes (log entry 4) -/
  params : Params
deriving DecidableEq, Repr

/-- Why `step` has no next state. No meaning of an instruction answers with one of these: a fault that the spec describes is a
run state (R446), and these say that a machine in such a run state has no further step. -/
inductive Fault where
  /-- Raised by `step` in the run state Terminated: the run has ended normally and there is no step (R431, R451). Safe. -/
  | terminated
  /-- Raised by `step` in the run state Faulted, with what it recorded: there is no step (R431, R446). Safe. -/
  | faulted (kind : FaultKind) (bank : Byte) (offset : Word) (opcode : Byte)
deriving DecidableEq, Repr

/-- Why an instruction has no meaning. Every instruction has one, so nothing raises it. -/
inductive Refusal where
  /-- For an arm of `exec` without a meaning, by mnemonic: none is left. Safe. -/
  | notModelled (mnemonic : String)
deriving DecidableEq, Repr

/-- The three outcomes of an instruction or a step. -/
abbrev Result := Host.Outcome State Fault Refusal

/-- All flags false (R56, R482): native mode, 16-bit widths, IRQ enabled. -/
def Flags.reset : Flags :=
  { c := false, z := false, n := false, v := false, d := false, i := false, b := false, e := false,
    m := false, x := false }

/-- `P_POLL` as the positive integer it is (R6): a zero in the data counts as 1. -/
def pollPeriod (par : Params) : Int :=
  match par.timing with
  | .draw => ((max 1 Config.freePoll : Nat) : Int)
  | .budget _ poll => ((max 1 poll : Nat) : Int)

/-- Construction (R481, R482): every register and flag zero, PBR:PC at `P_ENTRY`, `cyc` at `P_POLL`, memory `P_MEM0`. The
host's two inputs start false (log entry 5). -/
def State.construct (par : Params) (mem0 : Memory) : State :=
  { a := 0, x := 0, y := 0, sp := 0, d := 0, dbr := 0,
    pbr := par.entry.extractLsb' 16 8, pc := par.entry.extractLsb' 0 16,
    p := Flags.reset, run := .running, cyc := pollPeriod par,
    exitRequest := false, nmiPending := false, irqLine := false,
    mem := mem0, bus := [], draws := 0, params := par }

/-- The machine right after construction with the default parameters and a memory that lists nothing. -/
def State.reset : State := State.construct Params.default []

end Sys2Proof.Machine
end

