-- ==== Sys2Proof/Machine/Ops.lean ====
section
/-! DEFINITION. The named operations of the machine: memory and its collaborator (spec 20_memory R81-R88), register access at a width (00_scope R9,
R10), the stack (R91-R94), the status byte (10_state R45-R47), trap entry and return (60_exceptions R440, 45_status_system
R397), raising a fault (R446), and what the host may do between steps (R450, R481). -/

namespace Sys2Proof.Config

open Sys2Proof.Machine in
/-- The free value for `P_MEM` (R6, R81, R88; log entry 8): the byte a collaborator answers at an address, any function of the
image it was launched with and of its history. -/
opaque busByte : Memory → List BusEvent → Addr → Byte

end Sys2Proof.Config

namespace Sys2Proof.Machine

/-! ### Memory -/

/-- The byte at an address: the listed one, else 0x00 (R81; log entry 1). -/
def Memory.read : Memory → Nat → Byte
  | [], _ => 0
  | (k, v) :: rest, a => if k = a then v else Memory.read rest a

/-- Memory without the cells of one address. -/
def Memory.erase : Memory → Nat → Memory
  | [], _ => []
  | (k, u) :: rest, a => if k = a then Memory.erase rest a else (k, u) :: Memory.erase rest a

/-- Lists a cell before the first cell of a higher address. -/
def Memory.insert : Memory → Nat → Byte → Memory
  | [], a, v => [(a, v)]
  | (k, u) :: rest, a, v => if a < k then (a, v) :: (k, u) :: rest else (k, u) :: Memory.insert rest a v

/-- Stores a byte and keeps the canonical form: a zero is not listed. -/
def Memory.write (m : Memory) (a : Nat) (v : Byte) : Memory :=
  if v = 0 then m.erase a else (m.erase a).insert a v

/-- The cells have strictly rising addresses from `lo` on, below 2^24, and no zero byte. -/
def Memory.wfFrom (lo : Nat) : Memory → Bool
  | [] => true
  | (k, v) :: rest => decide (lo ≤ k) && decide (k < 2 ^ 24) && decide (v ≠ 0) && Memory.wfFrom (k + 1) rest

/-- The canonical form of memory. -/
def Memory.wf (m : Memory) : Bool := Memory.wfFrom 0 m

/-- The history after an event: plain RAM keeps none. -/
def State.record (s : State) (event : BusEvent) : List BusEvent :=
  match s.params.memory with
  | .ram => s.bus
  | .bus => event :: s.bus

/-- The cells after a store: those of plain RAM change. -/
def State.cellsAfter (s : State) (a : Addr) (v : Byte) : Memory :=
  match s.params.memory with
  | .ram => s.mem.write a.toNat v
  | .bus => s.mem

/-- The byte `MemRead(a, 1)` answers (R11): the cell of plain RAM, or what the collaborator answers after its history. -/
def State.load (s : State) (a : Addr) : Byte :=
  match s.params.memory with
  | .ram => s.mem.read a.toNat
  | .bus => Config.busByte s.mem s.bus a

/-- The state after `MemRead(a, 1)` (R11, R88): a collaborator has seen the read, plain RAM is as it was. -/
def State.noteRead (s : State) (a : Addr) : State := { s with bus := s.record (.read a) }

/-- The state after reads in this order. -/
def State.noteReads (s : State) : List Addr → State
  | [] => s
  | a :: rest => (s.noteRead a).noteReads rest

/-- `MemWrite(a, 1, v)` (R11). -/
def State.store (s : State) (a : Addr) (v : Byte) : State :=
  { s with mem := s.cellsAfter a v, bus := s.record (.write a v) }

/-- The two addresses of an operand (R141): the low byte's, and the high byte's for a 16-bit operand. -/
structure Ea where
  lo : Addr
  hi : Addr
deriving DecidableEq, Repr

/-- The addresses of an operand at width w, the low byte's first (R85). -/
def Ea.bytes (ea : Ea) : Width → List Addr
  | .w8 => [ea.lo]
  | .w16 => [ea.lo, ea.hi]

/-- The value read at width w from a pair of addresses, low byte first, zero-extended to 16 bits (R14, R85). The state after is
`s.noteReads (ea.bytes w)`. -/
def State.readAt (s : State) (w : Width) (ea : Ea) : Word :=
  match w with
  | .w8 => zextByte (s.load ea.lo)
  | .w16 => wordOf ((s.noteRead ea.lo).load ea.hi) (s.load ea.lo)

/-- Writes an operand at width w, low byte first (R85, D37). -/
def State.writeAt (s : State) (w : Width) (ea : Ea) (v : Word) : State :=
  match w with
  | .w8 => s.store ea.lo (loByte v)
  | .w16 => (s.store ea.lo (loByte v)).store ea.hi (hiByte v)

/-- The addresses of a 16-bit pointer at `p`, the second at the next offset of the same bank (R147, D9). -/
def pointerBytes16 (p : Addr) : List Addr := [p, inbankNext p]

/-- The addresses of a 24-bit pointer at `p` (R148, R158, D9). -/
def pointerBytes24 (p : Addr) : List Addr := [p, inbankNext p, inbankNext (inbankNext p)]

/-- The 16-bit pointer at `p`, read low byte first (R85). The state after is `s.noteReads (pointerBytes16 p)`. -/
def State.pointer16 (s : State) (p : Addr) : Word :=
  wordOf ((s.noteRead p).load (inbankNext p)) (s.load p)

/-- The 24-bit pointer at `p`. The state after is `s.noteReads (pointerBytes24 p)`. -/
def State.pointer24 (s : State) (p : Addr) : Addr :=
  longOf (((s.noteRead p).noteRead (inbankNext p)).load (inbankNext (inbankNext p)))
    ((s.noteRead p).load (inbankNext p)) (s.load p)

/-! ### Registers and flags at a width -/

/-- `wA` (R9). -/
def State.wA (s : State) : Width := Width.ofFlag s.p.m

/-- `wX` (R9). -/
def State.wX (s : State) : Width := Width.ofFlag s.p.x

/-- `getA(w)` (R10). -/
def State.getA (s : State) (w : Width) : Word := w.trunc s.a

/-- `getX(w)` (R10). -/
def State.getX (s : State) (w : Width) : Word := w.trunc s.x

/-- `getY(w)` (R10). -/
def State.getY (s : State) (w : Width) : Word := w.trunc s.y

/-- `setA(w, v)` (R10): at width 8 the high byte stays. -/
def State.setA (s : State) (w : Width) (v : Word) : State := { s with a := w.merge s.a v }

/-- `setX(w, v)` (R10). -/
def State.setX (s : State) (w : Width) (v : Word) : State := { s with x := w.merge s.x v }

/-- `setY(w, v)` (R10). -/
def State.setY (s : State) (w : Width) (v : Word) : State := { s with y := w.merge s.y v }

/-- `setNZ(w, v)` (R10). -/
def State.setNZ (s : State) (w : Width) (v : Word) : State :=
  { s with p := { s.p with n := w.sign v, z := decide (w.trunc v = 0) } }

/-- `P.c <- v`. -/
def State.setC (s : State) (v : Bool) : State := { s with p := { s.p with c := v } }

/-- `P.z <- v`. -/
def State.setZ (s : State) (v : Bool) : State := { s with p := { s.p with z := v } }

/-- `P.v <- v`. -/
def State.setV (s : State) (v : Bool) : State := { s with p := { s.p with v := v } }

/-- A value of SP as the mode allows it: in emulation mode the high byte is 0x01 (R34). -/
def pinStack (e : Bool) (v : Word) : Word := if e then wordOf 0x01 (loByte v) else v

/-- Every write of SP (R34). -/
def State.setSp (s : State) (v : Word) : State := { s with sp := pinStack s.p.e v }

/-- PC after n fetched bytes, in its bank (R38). -/
def State.advance (s : State) (n : Nat) : State := { s with pc := s.pc + BitVec.ofNat 16 n }

/-- `PC <- target`. -/
def State.jump (s : State) (target : Word) : State := { s with pc := target }

/-- `PBR:PC <- target`. -/
def State.jumpLong (s : State) (target : Addr) : State :=
  { s with pbr := bankOf target, pc := offsetOf target }

/-! ### The stack -/

/-- `Push8(v)` (R91). -/
def State.push8 (s : State) (v : Byte) : State := (s.store (addrOf 0 s.sp) v).setSp (s.sp - 1)

/-- `Push16(v)` (R92): the high byte first. -/
def State.push16 (s : State) (v : Word) : State := (s.push8 (hiByte v)).push8 (loByte v)

/-- SP after the increment of a pull (R93). -/
def State.popSp (s : State) : State := s.setSp (s.sp + 1)

/-- `Pull8()` (R93): the byte and the state after. -/
def State.pull8 (s : State) : Byte × State :=
  (s.popSp.load (addrOf 0 s.popSp.sp), s.popSp.noteRead (addrOf 0 s.popSp.sp))

/-- `Pull16()` (R94): the low byte first. -/
def State.pull16 (s : State) : Word × State :=
  let lo := s.pull8
  let hi := lo.2.pull8
  (wordOf hi.1 lo.1, hi.2)

/-- Pushes a register at a width (R342-R344). -/
def State.pushAt (s : State) (w : Width) (v : Word) : State :=
  match w with
  | .w8 => s.push8 (loByte v)
  | .w16 => s.push16 v

/-- Pulls a value at a width (R352-R354), zero-extended to 16 bits. -/
def State.pullAt (s : State) (w : Width) : Word × State :=
  match w with
  | .w8 => (zextByte s.pull8.1, s.pull8.2)
  | .w16 => s.pull16

/-! ### The status byte -/

/-- A flag at bit k of a byte. -/
def flagBit (f : Bool) (k : Nat) : Byte := if f then BitVec.ofNat 8 (2 ^ k) else 0

/-- `pack(bit4)` (R45): in emulation mode bit 5 is 1 and bit 4 is the caller's. -/
def Flags.pack (p : Flags) (bit4 : Bool) : Byte :=
  flagBit p.n 7 ||| flagBit p.v 6 ||| flagBit (p.e || p.m) 5 ||| flagBit (if p.e then bit4 else p.x) 4 |||
    flagBit p.d 3 ||| flagBit p.i 2 ||| flagBit p.z 1 ||| flagBit p.c 0

/-- The side effects of writing m, x or e (R47). -/
def State.fixWidths (s : State) : State :=
  if s.p.e then
    { s with p := { s.p with m := true, x := true }, x := zextByte (loByte s.x), y := zextByte (loByte s.y),
             sp := wordOf 0x01 (loByte s.sp) }
  else if s.p.x then { s with x := zextByte (loByte s.x), y := zextByte (loByte s.y) }
  else s

/-- The flags that `unpack(v)` writes (R46): m and x in native mode only, e and b never. -/
def Flags.unpack (p : Flags) (v : Byte) : Flags :=
  { p with n := v.getLsbD 7, v := v.getLsbD 6, d := v.getLsbD 3, i := v.getLsbD 2, z := v.getLsbD 1,
           c := v.getLsbD 0,
           m := if p.e then p.m else v.getLsbD 5, x := if p.e then p.x else v.getLsbD 4 }

/-- `unpack(v)` (R46) with the side effects of R47. -/
def State.unpack (s : State) (v : Byte) : State := { s with p := s.p.unpack v }.fixWidths

/-! ### Traps and faults -/

/-- The four trap kinds (R439). -/
inductive TrapKind where
  | brk
  | cop
  | irq
  | nmi
deriving DecidableEq, Repr

/-- BRK and COP, the software traps (R48, R439). -/
def TrapKind.isSoftware : TrapKind → Bool
  | .brk => true
  | .cop => true
  | .irq => false
  | .nmi => false

/-- `vector(kind, e)` (R443): native BRK and COP are fixed, the rest are `P_VECTORS`. -/
def vectorAddr (t : Vectors) (kind : TrapKind) (e : Bool) : Word :=
  match kind, e with
  | .brk, false => 0xFFE6
  | .cop, false => 0xFFE4
  | .irq, false => t.irqNative
  | .nmi, false => t.nmiNative
  | .brk, true => t.brkEmulation
  | .cop, true => t.copEmulation
  | .irq, true => t.irqEmulation
  | .nmi, true => t.nmiEmulation

/-- The return frame and the break flag of `Enter(kind)` (R440): PBR in native mode, PC, then the status byte, with b
written before it in emulation mode. -/
def State.pushFrame (s : State) (kind : TrapKind) : State :=
  let s1 := if s.p.e then s else s.push8 s.pbr
  let s2 := s1.push16 s.pc
  let s3 := if s.p.e then { s2 with p := { s2.p with b := kind.isSoftware } } else s2
  s3.push8 (s3.p.pack s3.p.b)

/-- `Enter(kind)` (R440), the one trap entry. The vector is read after the pushes. -/
def State.enter (s : State) (kind : TrapKind) : State :=
  let t := s.pushFrame kind
  let vec := addrOf 0 (vectorAddr t.params.vectors kind s.p.e)
  { t.noteReads (pointerBytes16 vec) with
    p := { t.p with i := true, d := false }, pbr := 0, pc := t.pointer16 vec }

/-- The return from a trap (R397): status, PC, then in native mode PBR. -/
def State.returnFromTrap (s : State) : State :=
  let st := s.pull8
  let s1 := st.2.unpack st.1
  let pc := s1.pull16
  let s2 := { pc.2 with pc := pc.1 }
  if s2.p.e then s2 else { s2.pull8.2 with pbr := s2.pull8.1 }

/-- `raise Fault(kind)` for the instruction at offset `i0` (R446): the run state records it and nothing is rolled back. -/
def State.raiseFault (s : State) (kind : FaultKind) (i0 : Word) (opcode : Byte) : State :=
  { s with run := .faulted kind s.pbr i0 opcode }

/-! ### What the host may do between steps -/

/-- The host sets the exit request (R450). -/
def State.requestExit (s : State) : State := { s with exitRequest := true }

/-- The host latches NMI (R450). -/
def State.raiseNmi (s : State) : State := { s with nmiPending := true }

/-- The host raises or lowers IRQ (R450). -/
def State.setIrq (s : State) (level : Bool) : State := { s with irqLine := level }

/-- The host replaces plain RAM by a collaborator `P_MEM` before the first step (R450, R481). -/
def State.replaceMemory (s : State) : State :=
  { s with params := { s.params with memory := .bus }, bus := [] }

/-- A component behind `P_MEM` acts between two steps (R97, R450); plain RAM has no such component. -/
def State.busEvent (s : State) (event : Nat) : State := { s with bus := s.record (.outside event) }

/-- The host resets the core (R481, R482): registers and flags as constructed, memory and the host's two inputs as they are. -/
def State.hostReset (s : State) : State :=
  { State.construct s.params s.mem with
    exitRequest := s.exitRequest, irqLine := s.irqLine, bus := s.bus, draws := s.draws }

end Sys2Proof.Machine
end

