-- ==== Sys2Proof/Machine/Operands.lean ====
section
/-! DEFINITION. The addressing modes (spec 40_addressing_modes R141-R167, R170): effective addresses, pairs, reading and writing
operands. The types admit only the modes that an instruction can use, so no pairing is invalid (R124, R168). -/

namespace Sys2Proof.Machine

/-- `idxX` (R170). -/
def State.idxX (s : State) : Word := if s.p.x then zextByte (loByte s.x) else s.x

/-- `idxY` (R170). -/
def State.idxY (s : State) : Word := if s.p.x then zextByte (loByte s.y) else s.y

/-- `DirectAddr(LL, idx)` for the instruction with this opcode (R142). -/
def State.directAddr (s : State) (op : Byte) (ll : Byte) (idx : Word) : Addr :=
  if s.params.dpExempt ≠ some op ∧ s.p.e = true ∧ loByte s.d = 0 then
    addrOf 0 (wordOf (hiByte s.d) (ll + loByte idx))
  else addrOf 0 (s.d + zextByte ll + idx)

/-- The stack-relative address (R160). -/
def State.stackAddr (s : State) (ll : Byte) : Addr := addrOf 0 (zextByte ll + s.sp)

/-- The modes that name an operand in memory, with their operand bytes (R144-R156, R160, R161). -/
inductive MemOperand where
  | dp (ll : Byte)
  | dpX (ll : Byte)
  | dpY (ll : Byte)
  | dpInd (ll : Byte)
  | dpIndL (ll : Byte)
  | dpXInd (ll : Byte)
  | dpIndY (ll : Byte)
  | dpIndLY (ll : Byte)
  | abs (hhll : Word)
  | absX (hhll : Word)
  | absY (hhll : Word)
  | long (addr : Addr)
  | longX (addr : Addr)
  | sr (ll : Byte)
  | srIndY (ll : Byte)
deriving DecidableEq, Repr

/-- The instruction length with this operand (R113, R123). -/
def MemOperand.length : MemOperand → Nat
  | .dp _ => 2
  | .dpX _ => 2
  | .dpY _ => 2
  | .dpInd _ => 2
  | .dpIndL _ => 2
  | .dpXInd _ => 2
  | .dpIndY _ => 2
  | .dpIndLY _ => 2
  | .abs _ => 3
  | .absX _ => 3
  | .absY _ => 3
  | .long _ => 4
  | .longX _ => 4
  | .sr _ => 2
  | .srIndY _ => 2

/-- `ea0` (R144-R156, R160, R161), for the instruction with this opcode. -/
def MemOperand.ea0 (op : Byte) (s : State) : MemOperand → Addr
  | .dp ll => s.directAddr op ll 0
  | .dpX ll => s.directAddr op ll s.idxX
  | .dpY ll => s.directAddr op ll s.idxY
  | .dpInd ll => addrOf s.dbr (s.pointer16 (s.directAddr op ll 0))
  | .dpIndL ll => s.pointer24 (s.directAddr op ll 0)
  | .dpXInd ll => addrOf s.dbr (s.pointer16 (s.directAddr op ll s.idxX))
  | .dpIndY ll => addIndex (addrOf s.dbr (s.pointer16 (s.directAddr op ll 0))) s.idxY
  | .dpIndLY ll => addIndex (s.pointer24 (s.directAddr op ll 0)) s.idxY
  | .abs hhll => addrOf s.dbr hhll
  | .absX hhll => addIndex (addrOf s.dbr hhll) s.idxX
  | .absY hhll => addIndex (addrOf s.dbr hhll) s.idxY
  | .long addr => addr
  | .longX addr => addIndex addr s.idxX
  | .sr ll => s.stackAddr ll
  | .srIndY ll => addIndex (addrOf s.dbr (s.pointer16 (s.stackAddr ll))) s.idxY

/-- `ea1 = next_for(tag, ea0)` (R167): in-bank for direct and stack-relative, 24-bit for the rest. -/
def MemOperand.next : MemOperand → Addr → Addr
  | .dp _ => inbankNext
  | .dpX _ => inbankNext
  | .dpY _ => inbankNext
  | .dpInd _ => next24
  | .dpIndL _ => next24
  | .dpXInd _ => next24
  | .dpIndY _ => next24
  | .dpIndLY _ => next24
  | .abs _ => next24
  | .absX _ => next24
  | .absY _ => next24
  | .long _ => next24
  | .longX _ => next24
  | .sr _ => inbankNext
  | .srIndY _ => next24

/-- The resolved pair (R141): the mode is resolved once. -/
def MemOperand.ea (o : MemOperand) (op : Byte) (s : State) : Ea :=
  { lo := o.ea0 op s, hi := o.next (o.ea0 op s) }

/-- The bytes the mode reads to resolve `ea0`, in order: those of its pointer (R144-R156, R160, R161). -/
def MemOperand.pointerReads (op : Byte) (s : State) : MemOperand → List Addr
  | .dp _ => []
  | .dpX _ => []
  | .dpY _ => []
  | .dpInd ll => pointerBytes16 (s.directAddr op ll 0)
  | .dpIndL ll => pointerBytes24 (s.directAddr op ll 0)
  | .dpXInd ll => pointerBytes16 (s.directAddr op ll s.idxX)
  | .dpIndY ll => pointerBytes16 (s.directAddr op ll 0)
  | .dpIndLY ll => pointerBytes24 (s.directAddr op ll 0)
  | .abs _ => []
  | .absX _ => []
  | .absY _ => []
  | .long _ => []
  | .longX _ => []
  | .sr _ => []
  | .srIndY ll => pointerBytes16 (s.stackAddr ll)

/-- The state after the mode is resolved. -/
def MemOperand.resolved (o : MemOperand) (op : Byte) (s : State) : State := s.noteReads (o.pointerReads op s)

/-- The value of the operand at width w, read after the mode is resolved (R14, R96). -/
def MemOperand.read (o : MemOperand) (w : Width) (op : Byte) (s : State) : Word :=
  (o.resolved op s).readAt w (o.ea op s)

/-- The state after the operand is read. -/
def MemOperand.afterRead (o : MemOperand) (w : Width) (op : Byte) (s : State) : State :=
  (o.resolved op s).noteReads ((o.ea op s).bytes w)

/-- A source operand: an immediate (R143) or a memory operand. -/
inductive Operand where
  | imm (v : Word)
  | mem (o : MemOperand)
deriving DecidableEq, Repr

/-- The instruction length with this operand at width w (R113, R123). -/
def Operand.length (w : Width) : Operand → Nat
  | .imm _ => 1 + w.bytes
  | .mem o => o.length

/-- "Read the operand" at width w (R14, R143). -/
def Operand.read (w : Width) (op : Byte) (s : State) : Operand → Word
  | .imm v => w.trunc v
  | .mem o => o.read w op s

/-- The state after the operand is read. An immediate was fetched with the instruction. -/
def Operand.afterRead (w : Width) (op : Byte) (s : State) : Operand → State
  | .imm _ => s
  | .mem o => o.afterRead w op s

/-- The operand of a read-modify-write instruction: the accumulator (R164) or a memory operand. -/
inductive RmwOperand where
  | acc
  | mem (o : MemOperand)
deriving DecidableEq, Repr

/-- The instruction length with this operand (R113). -/
def RmwOperand.length : RmwOperand → Nat
  | .acc => 1
  | .mem o => o.length

/-- Reads the operand at width w (R241). -/
def RmwOperand.read (w : Width) (op : Byte) (s : State) : RmwOperand → Word
  | .acc => s.getA w
  | .mem o => o.read w op s

/-- Reads the operand and writes the result back at width w, to the address it was read from (R141, R241). -/
def RmwOperand.write (w : Width) (op : Byte) (s : State) (v : Word) : RmwOperand → State
  | .acc => s.setA w v
  | .mem o => (o.afterRead w op s).writeAt w (o.ea op s) v

/-- The target offset of Relative8 for the opcode at `i0` (R162). -/
def rel8Target (i0 : Word) (d : Byte) : Word := i0 + 2 + sextByte d

/-- The target offset of Relative16 for the opcode at `i0` (R163). -/
def rel16Target (i0 d : Word) : Word := i0 + 3 + d

/-- Where `(abs,X)` has its pointer (R159); `(abs)` and `[abs]` have it at `addrOf 0 hhll` (R157, R158). -/
def State.absXPointer (s : State) (hhll : Word) : Addr := addrOf s.pbr (hhll + s.idxX)

/-- The source and destination of one block-move iteration (R166, `P_BLOCK_ROLES`). -/
def State.blockAddrs (s : State) (dst src : Byte) : Addr × Addr :=
  match s.params.blockRoles with
  | .architecture => (addrOf src s.idxX, addrOf dst s.idxY)
  | .docTable => (addrOf src s.idxY, addrOf dst s.idxX)

end Sys2Proof.Machine
end

