-- ==== Sys2Proof/Machine/Arithmetic.lean ====
section
/-! DEFINITION. Add, subtract, compare, increment and decrement (spec 42_arith_logic R246-R250, R257-R262). -/

namespace Sys2Proof.Machine

/-- ADC (R246): n and z from the result, c and v as the adder gives them. -/
def adcOp (op : Byte) (o : Operand) (s : State) : State :=
  let w := s.wA
  let r := adcResult w s.p.d (s.getA w) (o.read w op s) s.p.c
  (((((o.afterRead w op s).setV r.overflow).setC r.carry).setA w r.value).setNZ w r.value).advance (o.length w)

/-- 0x61 ADC (dp,X) (R246, R149). -/
def execAdcDpXInd (ll : Byte) (s : State) : Result := .next (adcOp 0x61 (.mem (.dpXInd ll)) s)

/-- 0x63 ADC sr,S (R246, R160). -/
def execAdcSr (ll : Byte) (s : State) : Result := .next (adcOp 0x63 (.mem (.sr ll)) s)

/-- 0x65 ADC dp (R246, R144). -/
def execAdcDp (ll : Byte) (s : State) : Result := .next (adcOp 0x65 (.mem (.dp ll)) s)

/-- 0x67 ADC [dp] (R246, R148). -/
def execAdcDpIndL (ll : Byte) (s : State) : Result := .next (adcOp 0x67 (.mem (.dpIndL ll)) s)

/-- 0x69 ADC #const (R246, R143). -/
def execAdcImm (imm : Word) (s : State) : Result := .next (adcOp 0x69 (.imm imm) s)

/-- 0x6D ADC addr (R246, R152). -/
def execAdcAbs (hhll : Word) (s : State) : Result := .next (adcOp 0x6D (.mem (.abs hhll)) s)

/-- 0x6F ADC long (R246, R155). -/
def execAdcLong (addr : Addr) (s : State) : Result := .next (adcOp 0x6F (.mem (.long addr)) s)

/-- 0x71 ADC (dp),Y (R246, R150). -/
def execAdcDpIndY (ll : Byte) (s : State) : Result := .next (adcOp 0x71 (.mem (.dpIndY ll)) s)

/-- 0x72 ADC (dp) (R246, R147). -/
def execAdcDpInd (ll : Byte) (s : State) : Result := .next (adcOp 0x72 (.mem (.dpInd ll)) s)

/-- 0x73 ADC (sr,S),Y (R246, R161). -/
def execAdcSrIndY (ll : Byte) (s : State) : Result := .next (adcOp 0x73 (.mem (.srIndY ll)) s)

/-- 0x75 ADC dp,X (R246, R145). -/
def execAdcDpX (ll : Byte) (s : State) : Result := .next (adcOp 0x75 (.mem (.dpX ll)) s)

/-- 0x77 ADC [dp],Y (R246, R151). -/
def execAdcDpIndLY (ll : Byte) (s : State) : Result := .next (adcOp 0x77 (.mem (.dpIndLY ll)) s)

/-- 0x79 ADC addr,Y (R246, R154). -/
def execAdcAbsY (hhll : Word) (s : State) : Result := .next (adcOp 0x79 (.mem (.absY hhll)) s)

/-- 0x7D ADC addr,X (R246, R153). -/
def execAdcAbsX (hhll : Word) (s : State) : Result := .next (adcOp 0x7D (.mem (.absX hhll)) s)

/-- 0x7F ADC long,X (R246, R156). -/
def execAdcLongX (addr : Addr) (s : State) : Result := .next (adcOp 0x7F (.mem (.longX addr)) s)

/-- SBC (R247): n and z from the result, c and v as the adder gives them. -/
def sbcOp (op : Byte) (o : Operand) (s : State) : State :=
  let w := s.wA
  let r := sbcResult w s.p.d (s.getA w) (o.read w op s) s.p.c
  (((((o.afterRead w op s).setV r.overflow).setC r.carry).setA w r.value).setNZ w r.value).advance (o.length w)

/-- 0xE1 SBC (dp,X) (R247, R149). -/
def execSbcDpXInd (ll : Byte) (s : State) : Result := .next (sbcOp 0xE1 (.mem (.dpXInd ll)) s)

/-- 0xE3 SBC sr,S (R247, R160). -/
def execSbcSr (ll : Byte) (s : State) : Result := .next (sbcOp 0xE3 (.mem (.sr ll)) s)

/-- 0xE5 SBC dp (R247, R144). -/
def execSbcDp (ll : Byte) (s : State) : Result := .next (sbcOp 0xE5 (.mem (.dp ll)) s)

/-- 0xE7 SBC [dp] (R247, R148). -/
def execSbcDpIndL (ll : Byte) (s : State) : Result := .next (sbcOp 0xE7 (.mem (.dpIndL ll)) s)

/-- 0xE9 SBC #const (R247, R143). -/
def execSbcImm (imm : Word) (s : State) : Result := .next (sbcOp 0xE9 (.imm imm) s)

/-- 0xED SBC addr (R247, R152). -/
def execSbcAbs (hhll : Word) (s : State) : Result := .next (sbcOp 0xED (.mem (.abs hhll)) s)

/-- 0xEF SBC long (R247, R155). -/
def execSbcLong (addr : Addr) (s : State) : Result := .next (sbcOp 0xEF (.mem (.long addr)) s)

/-- 0xF1 SBC (dp),Y (R247, R150). -/
def execSbcDpIndY (ll : Byte) (s : State) : Result := .next (sbcOp 0xF1 (.mem (.dpIndY ll)) s)

/-- 0xF2 SBC (dp) (R247, R147). -/
def execSbcDpInd (ll : Byte) (s : State) : Result := .next (sbcOp 0xF2 (.mem (.dpInd ll)) s)

/-- 0xF3 SBC (sr,S),Y (R247, R161). -/
def execSbcSrIndY (ll : Byte) (s : State) : Result := .next (sbcOp 0xF3 (.mem (.srIndY ll)) s)

/-- 0xF5 SBC dp,X (R247, R145). -/
def execSbcDpX (ll : Byte) (s : State) : Result := .next (sbcOp 0xF5 (.mem (.dpX ll)) s)

/-- 0xF7 SBC [dp],Y (R247, R151). -/
def execSbcDpIndLY (ll : Byte) (s : State) : Result := .next (sbcOp 0xF7 (.mem (.dpIndLY ll)) s)

/-- 0xF9 SBC addr,Y (R247, R154). -/
def execSbcAbsY (hhll : Word) (s : State) : Result := .next (sbcOp 0xF9 (.mem (.absY hhll)) s)

/-- 0xFD SBC addr,X (R247, R153). -/
def execSbcAbsX (hhll : Word) (s : State) : Result := .next (sbcOp 0xFD (.mem (.absX hhll)) s)

/-- 0xFF SBC long,X (R247, R156). -/
def execSbcLongX (addr : Addr) (s : State) : Result := .next (sbcOp 0xFF (.mem (.longX addr)) s)

/-- The flags of a comparison (R248): c from the unsigned order, z from equality, n the top bit of the difference (D12). -/
def State.compare (s : State) (w : Width) (a b : Word) : State :=
  { s with p := { s.p with c := decide (b.toNat ≤ a.toNat), z := decide (a = b), n := w.sign (a - b) } }

/-- CMP (R248). -/
def cmpOp (op : Byte) (o : Operand) (s : State) : State :=
  let w := s.wA
  ((o.afterRead w op s).compare w (s.getA w) (o.read w op s)).advance (o.length w)

/-- 0xC1 CMP (dp,X) (R248, R149). -/
def execCmpDpXInd (ll : Byte) (s : State) : Result := .next (cmpOp 0xC1 (.mem (.dpXInd ll)) s)

/-- 0xC3 CMP sr,S (R248, R160). -/
def execCmpSr (ll : Byte) (s : State) : Result := .next (cmpOp 0xC3 (.mem (.sr ll)) s)

/-- 0xC5 CMP dp (R248, R144). -/
def execCmpDp (ll : Byte) (s : State) : Result := .next (cmpOp 0xC5 (.mem (.dp ll)) s)

/-- 0xC7 CMP [dp] (R248, R148). -/
def execCmpDpIndL (ll : Byte) (s : State) : Result := .next (cmpOp 0xC7 (.mem (.dpIndL ll)) s)

/-- 0xC9 CMP #const (R248, R143). -/
def execCmpImm (imm : Word) (s : State) : Result := .next (cmpOp 0xC9 (.imm imm) s)

/-- 0xCD CMP addr (R248, R152). -/
def execCmpAbs (hhll : Word) (s : State) : Result := .next (cmpOp 0xCD (.mem (.abs hhll)) s)

/-- 0xCF CMP long (R248, R155). -/
def execCmpLong (addr : Addr) (s : State) : Result := .next (cmpOp 0xCF (.mem (.long addr)) s)

/-- 0xD1 CMP (dp),Y (R248, R150). -/
def execCmpDpIndY (ll : Byte) (s : State) : Result := .next (cmpOp 0xD1 (.mem (.dpIndY ll)) s)

/-- 0xD2 CMP (dp) (R248, R147). -/
def execCmpDpInd (ll : Byte) (s : State) : Result := .next (cmpOp 0xD2 (.mem (.dpInd ll)) s)

/-- 0xD3 CMP (sr,S),Y (R248, R161). -/
def execCmpSrIndY (ll : Byte) (s : State) : Result := .next (cmpOp 0xD3 (.mem (.srIndY ll)) s)

/-- 0xD5 CMP dp,X (R248, R145). -/
def execCmpDpX (ll : Byte) (s : State) : Result := .next (cmpOp 0xD5 (.mem (.dpX ll)) s)

/-- 0xD7 CMP [dp],Y (R248, R151). -/
def execCmpDpIndLY (ll : Byte) (s : State) : Result := .next (cmpOp 0xD7 (.mem (.dpIndLY ll)) s)

/-- 0xD9 CMP addr,Y (R248, R154). -/
def execCmpAbsY (hhll : Word) (s : State) : Result := .next (cmpOp 0xD9 (.mem (.absY hhll)) s)

/-- 0xDD CMP addr,X (R248, R153). -/
def execCmpAbsX (hhll : Word) (s : State) : Result := .next (cmpOp 0xDD (.mem (.absX hhll)) s)

/-- 0xDF CMP long,X (R248, R156). -/
def execCmpLongX (addr : Addr) (s : State) : Result := .next (cmpOp 0xDF (.mem (.longX addr)) s)

/-- CPX (R249). -/
def cpxOp (op : Byte) (o : Operand) (s : State) : State :=
  let w := s.wX
  ((o.afterRead w op s).compare w (s.getX w) (o.read w op s)).advance (o.length w)

/-- 0xE0 CPX #const (R249, R143). -/
def execCpxImm (imm : Word) (s : State) : Result := .next (cpxOp 0xE0 (.imm imm) s)

/-- 0xE4 CPX dp (R249, R144). -/
def execCpxDp (ll : Byte) (s : State) : Result := .next (cpxOp 0xE4 (.mem (.dp ll)) s)

/-- 0xEC CPX addr (R249, R152). -/
def execCpxAbs (hhll : Word) (s : State) : Result := .next (cpxOp 0xEC (.mem (.abs hhll)) s)

/-- CPY (R250). -/
def cpyOp (op : Byte) (o : Operand) (s : State) : State :=
  let w := s.wX
  ((o.afterRead w op s).compare w (s.getY w) (o.read w op s)).advance (o.length w)

/-- 0xC0 CPY #const (R250, R143). -/
def execCpyImm (imm : Word) (s : State) : Result := .next (cpyOp 0xC0 (.imm imm) s)

/-- 0xC4 CPY dp (R250, R144). -/
def execCpyDp (ll : Byte) (s : State) : Result := .next (cpyOp 0xC4 (.mem (.dp ll)) s)

/-- 0xCC CPY addr (R250, R152). -/
def execCpyAbs (hhll : Word) (s : State) : Result := .next (cpyOp 0xCC (.mem (.abs hhll)) s)

/-- INC (R257): A or memory at `wA`, n and z. -/
def incOp (op : Byte) (o : RmwOperand) (s : State) : State :=
  let w := s.wA
  let res := w.trunc (o.read w op s + 1)
  ((o.write w op s res).setNZ w res).advance o.length

/-- 0x1A INC A (R257). -/
def execIncAcc (s : State) : Result := .next (incOp 0x1A .acc s)

/-- 0xE6 INC dp (R257, R144). -/
def execIncDp (ll : Byte) (s : State) : Result := .next (incOp 0xE6 (.mem (.dp ll)) s)

/-- 0xEE INC addr (R257, R152). -/
def execIncAbs (hhll : Word) (s : State) : Result := .next (incOp 0xEE (.mem (.abs hhll)) s)

/-- 0xF6 INC dp,X (R257, R145). -/
def execIncDpX (ll : Byte) (s : State) : Result := .next (incOp 0xF6 (.mem (.dpX ll)) s)

/-- 0xFE INC addr,X (R257, R153). -/
def execIncAbsX (hhll : Word) (s : State) : Result := .next (incOp 0xFE (.mem (.absX hhll)) s)

/-- DEC (R258): A or memory at `wA`, n and z. -/
def decOp (op : Byte) (o : RmwOperand) (s : State) : State :=
  let w := s.wA
  let res := w.trunc (o.read w op s - 1)
  ((o.write w op s res).setNZ w res).advance o.length

/-- 0x3A DEC A (R258). -/
def execDecAcc (s : State) : Result := .next (decOp 0x3A .acc s)

/-- 0xC6 DEC dp (R258, R144). -/
def execDecDp (ll : Byte) (s : State) : Result := .next (decOp 0xC6 (.mem (.dp ll)) s)

/-- 0xCE DEC addr (R258, R152). -/
def execDecAbs (hhll : Word) (s : State) : Result := .next (decOp 0xCE (.mem (.abs hhll)) s)

/-- 0xD6 DEC dp,X (R258, R145). -/
def execDecDpX (ll : Byte) (s : State) : Result := .next (decOp 0xD6 (.mem (.dpX ll)) s)

/-- 0xDE DEC addr,X (R258, R153). -/
def execDecAbsX (hhll : Word) (s : State) : Result := .next (decOp 0xDE (.mem (.absX hhll)) s)

/-- INX (R259). -/
def inxOp (s : State) : State :=
  let w := s.wX
  let res := w.trunc (s.getX w + 1)
  ((s.setX w res).setNZ w res).advance 1

/-- 0xE8 INX (R259). -/
def execInx (s : State) : Result := .next (inxOp s)

/-- INY (R260). -/
def inyOp (s : State) : State :=
  let w := s.wX
  let res := w.trunc (s.getY w + 1)
  ((s.setY w res).setNZ w res).advance 1

/-- 0xC8 INY (R260). -/
def execIny (s : State) : Result := .next (inyOp s)

/-- DEX (R261). -/
def dexOp (s : State) : State :=
  let w := s.wX
  let res := w.trunc (s.getX w - 1)
  ((s.setX w res).setNZ w res).advance 1

/-- 0xCA DEX (R261). -/
def execDex (s : State) : Result := .next (dexOp s)

/-- DEY (R262). -/
def deyOp (s : State) : State :=
  let w := s.wX
  let res := w.trunc (s.getY w - 1)
  ((s.setY w res).setNZ w res).advance 1

/-- 0x88 DEY (R262). -/
def execDey (s : State) : Result := .next (deyOp s)

end Sys2Proof.Machine
end

