-- ==== Sys2Proof/Machine/BlockMove.lean ====
section
/-! DEFINITION. Block moves (spec 46_block_move R421-R423): one execution moves one byte. -/

namespace Sys2Proof.Machine

/-- One iteration (R421-R423): the byte is read and written, DBR takes the destination bank, X and Y step by `delta` at `wX`,
A counts down in 16 bits, and PC stays at I0 until A wraps to 0xFFFF. -/
def blockMoveStep (delta : Word) (dst src : Byte) (s : State) : State :=
  let addrs := s.blockAddrs dst src
  let t := { (s.noteRead addrs.1).store addrs.2 (s.load addrs.1) with dbr := dst, a := s.a - 1 }
  let u := (t.setX s.wX (s.idxX + delta)).setY s.wX (s.idxY + delta)
  if s.a - 1 ≠ 0xFFFF then u else u.advance 3

/-- MVN (R422): ascending. -/
def mvnOp (dst src : Byte) (s : State) : State := blockMoveStep 1 dst src s

/-- 0x54 MVN srcbk,destbk (R422, R166). -/
def execMvn (dst src : Byte) (s : State) : Result := .next (mvnOp dst src s)

/-- MVP (R423): descending. -/
def mvpOp (dst src : Byte) (s : State) : State := blockMoveStep (-1) dst src s

/-- 0x44 MVP srcbk,destbk (R423, R166). -/
def execMvp (dst src : Byte) (s : State) : Result := .next (mvpOp dst src s)

end Sys2Proof.Machine
end

