-- ==== Sys2Proof/Machine/ControlFlow.lean ====
section
/-! DEFINITION. Branches, jumps, calls and returns (spec 43_control_flow R301-R317). PC holds I0 when a meaning starts. -/

namespace Sys2Proof.Machine

/-- A Relative8 branch (R301, R162): the displacement is fetched, taken or not. -/
def State.branch (s : State) (cond : Bool) (d : Byte) : State :=
  if cond then s.jump (rel8Target s.pc d) else s.advance 2

/-- BPL (R302). -/
def bplOp (d : Byte) (s : State) : State := s.branch (!s.p.n) d

/-- 0x10 BPL nearlabel (R302, R162). -/
def execBpl (d : Byte) (s : State) : Result := .next (bplOp d s)

/-- BMI (R303). -/
def bmiOp (d : Byte) (s : State) : State := s.branch s.p.n d

/-- 0x30 BMI nearlabel (R303, R162). -/
def execBmi (d : Byte) (s : State) : Result := .next (bmiOp d s)

/-- BVC (R304). -/
def bvcOp (d : Byte) (s : State) : State := s.branch (!s.p.v) d

/-- 0x50 BVC nearlabel (R304, R162). -/
def execBvc (d : Byte) (s : State) : Result := .next (bvcOp d s)

/-- BVS (R305). -/
def bvsOp (d : Byte) (s : State) : State := s.branch s.p.v d

/-- 0x70 BVS nearlabel (R305, R162). -/
def execBvs (d : Byte) (s : State) : Result := .next (bvsOp d s)

/-- BCC (R306). -/
def bccOp (d : Byte) (s : State) : State := s.branch (!s.p.c) d

/-- 0x90 BCC nearlabel (R306, R162). -/
def execBcc (d : Byte) (s : State) : Result := .next (bccOp d s)

/-- BCS (R307). -/
def bcsOp (d : Byte) (s : State) : State := s.branch s.p.c d

/-- 0xB0 BCS nearlabel (R307, R162). -/
def execBcs (d : Byte) (s : State) : Result := .next (bcsOp d s)

/-- BNE (R308). -/
def bneOp (d : Byte) (s : State) : State := s.branch (!s.p.z) d

/-- 0xD0 BNE nearlabel (R308, R162). -/
def execBne (d : Byte) (s : State) : Result := .next (bneOp d s)

/-- BEQ (R309). -/
def beqOp (d : Byte) (s : State) : State := s.branch s.p.z d

/-- 0xF0 BEQ nearlabel (R309, R162). -/
def execBeq (d : Byte) (s : State) : Result := .next (beqOp d s)

/-- BRA (R310). -/
def braOp (d : Byte) (s : State) : State := s.branch true d

/-- 0x80 BRA nearlabel (R310, R162). -/
def execBra (d : Byte) (s : State) : Result := .next (braOp d s)

/-- BRL (R311). -/
def brlOp (d : Word) (s : State) : State := s.jump (rel16Target s.pc d)

/-- 0x82 BRL label (R311, R163). -/
def execBrl (d : Word) (s : State) : Result := .next (brlOp d s)

/-- JMP addr (R312, R152): the target's bank is PBR. -/
def jmpAbs (hhll : Word) (s : State) : State := s.jump hhll

/-- JMP (addr) (R312, R157). -/
def jmpAbsInd (hhll : Word) (s : State) : State :=
  (s.noteReads (pointerBytes16 (addrOf 0 hhll))).jump (s.pointer16 (addrOf 0 hhll))

/-- JMP (addr,X) (R312, R159). -/
def jmpAbsXInd (hhll : Word) (s : State) : State :=
  (s.noteReads (pointerBytes16 (s.absXPointer hhll))).jump (s.pointer16 (s.absXPointer hhll))

/-- 0x4C JMP addr (R312, R152). -/
def execJmpAbs (hhll : Word) (s : State) : Result := .next (jmpAbs hhll s)

/-- 0x6C JMP (addr) (R312, R157). -/
def execJmpAbsInd (hhll : Word) (s : State) : Result := .next (jmpAbsInd hhll s)

/-- 0x7C JMP (addr,X) (R312, R159). -/
def execJmpAbsXInd (hhll : Word) (s : State) : Result := .next (jmpAbsXInd hhll s)

/-- JML long (R313). -/
def jmlLong (addr : Addr) (s : State) : State := s.jumpLong addr

/-- JML [addr] (R313, R158). -/
def jmlAbsIndL (hhll : Word) (s : State) : State :=
  (s.noteReads (pointerBytes24 (addrOf 0 hhll))).jumpLong (s.pointer24 (addrOf 0 hhll))

/-- 0x5C JML long (R313, R155). -/
def execJmlLong (addr : Addr) (s : State) : Result := .next (jmlLong addr s)

/-- 0xDC JML [addr] (R313, R158). -/
def execJmlAbsIndL (hhll : Word) (s : State) : Result := .next (jmlAbsIndL hhll s)

/-- JSR addr (R314): pushes the offset of its last byte, I0 + 2. -/
def jsrAbs (hhll : Word) (s : State) : State := (s.push16 (s.pc + 2)).jump hhll

/-- JSR (addr,X) (R314): the pointer is read before the pushes (R96, D28). -/
def jsrAbsXInd (hhll : Word) (s : State) : State :=
  let t := s.noteReads (pointerBytes16 (s.absXPointer hhll))
  (t.push16 (s.pc + 2)).jump (s.pointer16 (s.absXPointer hhll))

/-- 0x20 JSR addr (R314, R152). -/
def execJsrAbs (hhll : Word) (s : State) : Result := .next (jsrAbs hhll s)

/-- 0xFC JSR (addr,X) (R314, R159). -/
def execJsrAbsXInd (hhll : Word) (s : State) : Result := .next (jsrAbsXInd hhll s)

/-- JSL (R315): the bank first, then I0 + 3. -/
def jslOp (addr : Addr) (s : State) : State := ((s.push8 s.pbr).push16 (s.pc + 3)).jumpLong addr

/-- 0x22 JSL long (R315, R155). -/
def execJsl (addr : Addr) (s : State) : Result := .next (jslOp addr s)

/-- RTS (R316): the increment stays in the bank (D29). -/
def rtsOp (s : State) : State := s.pull16.2.jump (s.pull16.1 + 1)

/-- 0x60 RTS (R316). -/
def execRts (s : State) : Result := .next (rtsOp s)

/-- RTL (R317). -/
def rtlOp (s : State) : State :=
  let v := s.pull16
  let b := v.2.pull8
  { b.2 with pc := v.1 + 1, pbr := b.1 }

/-- 0x6B RTL (R317). -/
def execRtl (s : State) : Result := .next (rtlOp s)

end Sys2Proof.Machine
end

