-- ==== Sys2Proof/Machine/LoadStore.lean ====
section
/-! DEFINITION. Loads and stores (spec 41_load_store_transfer R191-R198). -/

namespace Sys2Proof.Machine

/-- LDA (R192): the operand at `wA` into A, n and z from it. -/
def ldaOp (op : Byte) (o : Operand) (s : State) : State :=
  let w := s.wA
  let v := o.read w op s
  (((o.afterRead w op s).setA w v).setNZ w v).advance (o.length w)

/-- 0xA1 LDA (dp,X) (R192, R149). -/
def execLdaDpXInd (ll : Byte) (s : State) : Result := .next (ldaOp 0xA1 (.mem (.dpXInd ll)) s)

/-- 0xA3 LDA sr,S (R192, R160). -/
def execLdaSr (ll : Byte) (s : State) : Result := .next (ldaOp 0xA3 (.mem (.sr ll)) s)

/-- 0xA5 LDA dp (R192, R144). -/
def execLdaDp (ll : Byte) (s : State) : Result := .next (ldaOp 0xA5 (.mem (.dp ll)) s)

/-- 0xA7 LDA [dp] (R192, R148). -/
def execLdaDpIndL (ll : Byte) (s : State) : Result := .next (ldaOp 0xA7 (.mem (.dpIndL ll)) s)

/-- 0xA9 LDA #const (R192, R143). -/
def execLdaImm (imm : Word) (s : State) : Result := .next (ldaOp 0xA9 (.imm imm) s)

/-- 0xAD LDA addr (R192, R152). -/
def execLdaAbs (hhll : Word) (s : State) : Result := .next (ldaOp 0xAD (.mem (.abs hhll)) s)

/-- 0xAF LDA long (R192, R155). -/
def execLdaLong (addr : Addr) (s : State) : Result := .next (ldaOp 0xAF (.mem (.long addr)) s)

/-- 0xB1 LDA (dp),Y (R192, R150). -/
def execLdaDpIndY (ll : Byte) (s : State) : Result := .next (ldaOp 0xB1 (.mem (.dpIndY ll)) s)

/-- 0xB2 LDA (dp) (R192, R147). -/
def execLdaDpInd (ll : Byte) (s : State) : Result := .next (ldaOp 0xB2 (.mem (.dpInd ll)) s)

/-- 0xB3 LDA (sr,S),Y (R192, R161). -/
def execLdaSrIndY (ll : Byte) (s : State) : Result := .next (ldaOp 0xB3 (.mem (.srIndY ll)) s)

/-- 0xB5 LDA dp,X (R192, R145). -/
def execLdaDpX (ll : Byte) (s : State) : Result := .next (ldaOp 0xB5 (.mem (.dpX ll)) s)

/-- 0xB7 LDA [dp],Y (R192, R151). -/
def execLdaDpIndLY (ll : Byte) (s : State) : Result := .next (ldaOp 0xB7 (.mem (.dpIndLY ll)) s)

/-- 0xB9 LDA addr,Y (R192, R154). -/
def execLdaAbsY (hhll : Word) (s : State) : Result := .next (ldaOp 0xB9 (.mem (.absY hhll)) s)

/-- 0xBD LDA addr,X (R192, R153). -/
def execLdaAbsX (hhll : Word) (s : State) : Result := .next (ldaOp 0xBD (.mem (.absX hhll)) s)

/-- 0xBF LDA long,X (R192, R156). -/
def execLdaLongX (addr : Addr) (s : State) : Result := .next (ldaOp 0xBF (.mem (.longX addr)) s)

/-- LDX (R193): the operand at `wX` into X, n and z from it. -/
def ldxOp (op : Byte) (o : Operand) (s : State) : State :=
  let w := s.wX
  let v := o.read w op s
  (((o.afterRead w op s).setX w v).setNZ w v).advance (o.length w)

/-- 0xA2 LDX #const (R193, R143). -/
def execLdxImm (imm : Word) (s : State) : Result := .next (ldxOp 0xA2 (.imm imm) s)

/-- 0xA6 LDX dp (R193, R144). -/
def execLdxDp (ll : Byte) (s : State) : Result := .next (ldxOp 0xA6 (.mem (.dp ll)) s)

/-- 0xAE LDX addr (R193, R152). -/
def execLdxAbs (hhll : Word) (s : State) : Result := .next (ldxOp 0xAE (.mem (.abs hhll)) s)

/-- 0xB6 LDX dp,Y (R193, R146). -/
def execLdxDpY (ll : Byte) (s : State) : Result := .next (ldxOp 0xB6 (.mem (.dpY ll)) s)

/-- 0xBE LDX addr,Y (R193, R154). -/
def execLdxAbsY (hhll : Word) (s : State) : Result := .next (ldxOp 0xBE (.mem (.absY hhll)) s)

/-- LDY (R194): the operand at `wX` into Y, n and z from it. -/
def ldyOp (op : Byte) (o : Operand) (s : State) : State :=
  let w := s.wX
  let v := o.read w op s
  (((o.afterRead w op s).setY w v).setNZ w v).advance (o.length w)

/-- 0xA0 LDY #const (R194, R143). -/
def execLdyImm (imm : Word) (s : State) : Result := .next (ldyOp 0xA0 (.imm imm) s)

/-- 0xA4 LDY dp (R194, R144). -/
def execLdyDp (ll : Byte) (s : State) : Result := .next (ldyOp 0xA4 (.mem (.dp ll)) s)

/-- 0xAC LDY addr (R194, R152). -/
def execLdyAbs (hhll : Word) (s : State) : Result := .next (ldyOp 0xAC (.mem (.abs hhll)) s)

/-- 0xB4 LDY dp,X (R194, R145). -/
def execLdyDpX (ll : Byte) (s : State) : Result := .next (ldyOp 0xB4 (.mem (.dpX ll)) s)

/-- 0xBC LDY addr,X (R194, R153). -/
def execLdyAbsX (hhll : Word) (s : State) : Result := .next (ldyOp 0xBC (.mem (.absX hhll)) s)

/-- STA (R195): A at `wA` to the operand, no flag. -/
def staOp (op : Byte) (o : MemOperand) (s : State) : State :=
  let w := s.wA
  ((o.resolved op s).writeAt w (o.ea op s) (s.getA w)).advance o.length

/-- 0x81 STA (dp,X) (R195, R149). -/
def execStaDpXInd (ll : Byte) (s : State) : Result := .next (staOp 0x81 (.dpXInd ll) s)

/-- 0x83 STA sr,S (R195, R160). -/
def execStaSr (ll : Byte) (s : State) : Result := .next (staOp 0x83 (.sr ll) s)

/-- 0x85 STA dp (R195, R144). -/
def execStaDp (ll : Byte) (s : State) : Result := .next (staOp 0x85 (.dp ll) s)

/-- 0x87 STA [dp] (R195, R148). -/
def execStaDpIndL (ll : Byte) (s : State) : Result := .next (staOp 0x87 (.dpIndL ll) s)

/-- 0x8D STA addr (R195, R152). -/
def execStaAbs (hhll : Word) (s : State) : Result := .next (staOp 0x8D (.abs hhll) s)

/-- 0x8F STA long (R195, R155). -/
def execStaLong (addr : Addr) (s : State) : Result := .next (staOp 0x8F (.long addr) s)

/-- 0x91 STA (dp),Y (R195, R150). -/
def execStaDpIndY (ll : Byte) (s : State) : Result := .next (staOp 0x91 (.dpIndY ll) s)

/-- 0x92 STA (dp) (R195, R147). -/
def execStaDpInd (ll : Byte) (s : State) : Result := .next (staOp 0x92 (.dpInd ll) s)

/-- 0x93 STA (sr,S),Y (R195, R161). -/
def execStaSrIndY (ll : Byte) (s : State) : Result := .next (staOp 0x93 (.srIndY ll) s)

/-- 0x95 STA dp,X (R195, R145). -/
def execStaDpX (ll : Byte) (s : State) : Result := .next (staOp 0x95 (.dpX ll) s)

/-- 0x97 STA [dp],Y (R195, R151). -/
def execStaDpIndLY (ll : Byte) (s : State) : Result := .next (staOp 0x97 (.dpIndLY ll) s)

/-- 0x99 STA addr,Y (R195, R154). -/
def execStaAbsY (hhll : Word) (s : State) : Result := .next (staOp 0x99 (.absY hhll) s)

/-- 0x9D STA addr,X (R195, R153). -/
def execStaAbsX (hhll : Word) (s : State) : Result := .next (staOp 0x9D (.absX hhll) s)

/-- 0x9F STA long,X (R195, R156). -/
def execStaLongX (addr : Addr) (s : State) : Result := .next (staOp 0x9F (.longX addr) s)

/-- STX (R196): X at `wX` to the operand, no flag. -/
def stxOp (op : Byte) (o : MemOperand) (s : State) : State :=
  let w := s.wX
  ((o.resolved op s).writeAt w (o.ea op s) (s.getX w)).advance o.length

/-- 0x86 STX dp (R196, R144). -/
def execStxDp (ll : Byte) (s : State) : Result := .next (stxOp 0x86 (.dp ll) s)

/-- 0x8E STX addr (R196, R152). -/
def execStxAbs (hhll : Word) (s : State) : Result := .next (stxOp 0x8E (.abs hhll) s)

/-- 0x96 STX dp,Y (R196, R146). -/
def execStxDpY (ll : Byte) (s : State) : Result := .next (stxOp 0x96 (.dpY ll) s)

/-- STY (R197): Y at `wX` to the operand, no flag. -/
def styOp (op : Byte) (o : MemOperand) (s : State) : State :=
  let w := s.wX
  ((o.resolved op s).writeAt w (o.ea op s) (s.getY w)).advance o.length

/-- 0x84 STY dp (R197, R144). -/
def execStyDp (ll : Byte) (s : State) : Result := .next (styOp 0x84 (.dp ll) s)

/-- 0x8C STY addr (R197, R152). -/
def execStyAbs (hhll : Word) (s : State) : Result := .next (styOp 0x8C (.abs hhll) s)

/-- 0x94 STY dp,X (R197, R145). -/
def execStyDpX (ll : Byte) (s : State) : Result := .next (styOp 0x94 (.dpX ll) s)

/-- STZ (R198): zero at `wA` to the operand, no flag. -/
def stzOp (op : Byte) (o : MemOperand) (s : State) : State :=
  let w := s.wA
  ((o.resolved op s).writeAt w (o.ea op s) 0).advance o.length

/-- 0x64 STZ dp (R198, R144). -/
def execStzDp (ll : Byte) (s : State) : Result := .next (stzOp 0x64 (.dp ll) s)

/-- 0x74 STZ dp,X (R198, R145). -/
def execStzDpX (ll : Byte) (s : State) : Result := .next (stzOp 0x74 (.dpX ll) s)

/-- 0x9C STZ addr (R198, R152). -/
def execStzAbs (hhll : Word) (s : State) : Result := .next (stzOp 0x9C (.abs hhll) s)

/-- 0x9E STZ addr,X (R198, R153). -/
def execStzAbsX (hhll : Word) (s : State) : Result := .next (stzOp 0x9E (.absX hhll) s)

end Sys2Proof.Machine
end

