-- ==== Sys2Proof/Machine/Logic.lean ====
section
/-! DEFINITION. Logic and bit tests (spec 42_arith_logic R251-R256). -/

namespace Sys2Proof.Machine

/-- AND (R251): into A at `wA`, n and z. -/
def andOp (op : Byte) (o : Operand) (s : State) : State :=
  let w := s.wA
  let res := s.getA w &&& o.read w op s
  (((o.afterRead w op s).setA w res).setNZ w res).advance (o.length w)

/-- 0x21 AND (dp,X) (R251, R149). -/
def execAndDpXInd (ll : Byte) (s : State) : Result := .next (andOp 0x21 (.mem (.dpXInd ll)) s)

/-- 0x23 AND sr,S (R251, R160). -/
def execAndSr (ll : Byte) (s : State) : Result := .next (andOp 0x23 (.mem (.sr ll)) s)

/-- 0x25 AND dp (R251, R144). -/
def execAndDp (ll : Byte) (s : State) : Result := .next (andOp 0x25 (.mem (.dp ll)) s)

/-- 0x27 AND [dp] (R251, R148). -/
def execAndDpIndL (ll : Byte) (s : State) : Result := .next (andOp 0x27 (.mem (.dpIndL ll)) s)

/-- 0x29 AND #const (R251, R143). -/
def execAndImm (imm : Word) (s : State) : Result := .next (andOp 0x29 (.imm imm) s)

/-- 0x2D AND addr (R251, R152). -/
def execAndAbs (hhll : Word) (s : State) : Result := .next (andOp 0x2D (.mem (.abs hhll)) s)

/-- 0x2F AND long (R251, R155). -/
def execAndLong (addr : Addr) (s : State) : Result := .next (andOp 0x2F (.mem (.long addr)) s)

/-- 0x31 AND (dp),Y (R251, R150). -/
def execAndDpIndY (ll : Byte) (s : State) : Result := .next (andOp 0x31 (.mem (.dpIndY ll)) s)

/-- 0x32 AND (dp) (R251, R147). -/
def execAndDpInd (ll : Byte) (s : State) : Result := .next (andOp 0x32 (.mem (.dpInd ll)) s)

/-- 0x33 AND (sr,S),Y (R251, R161). -/
def execAndSrIndY (ll : Byte) (s : State) : Result := .next (andOp 0x33 (.mem (.srIndY ll)) s)

/-- 0x35 AND dp,X (R251, R145). -/
def execAndDpX (ll : Byte) (s : State) : Result := .next (andOp 0x35 (.mem (.dpX ll)) s)

/-- 0x37 AND [dp],Y (R251, R151). -/
def execAndDpIndLY (ll : Byte) (s : State) : Result := .next (andOp 0x37 (.mem (.dpIndLY ll)) s)

/-- 0x39 AND addr,Y (R251, R154). -/
def execAndAbsY (hhll : Word) (s : State) : Result := .next (andOp 0x39 (.mem (.absY hhll)) s)

/-- 0x3D AND addr,X (R251, R153). -/
def execAndAbsX (hhll : Word) (s : State) : Result := .next (andOp 0x3D (.mem (.absX hhll)) s)

/-- 0x3F AND long,X (R251, R156). -/
def execAndLongX (addr : Addr) (s : State) : Result := .next (andOp 0x3F (.mem (.longX addr)) s)

/-- ORA (R252): into A at `wA`, n and z. -/
def oraOp (op : Byte) (o : Operand) (s : State) : State :=
  let w := s.wA
  let res := s.getA w ||| o.read w op s
  (((o.afterRead w op s).setA w res).setNZ w res).advance (o.length w)

/-- 0x01 ORA (dp,X) (R252, R149). -/
def execOraDpXInd (ll : Byte) (s : State) : Result := .next (oraOp 0x01 (.mem (.dpXInd ll)) s)

/-- 0x03 ORA sr,S (R252, R160). -/
def execOraSr (ll : Byte) (s : State) : Result := .next (oraOp 0x03 (.mem (.sr ll)) s)

/-- 0x05 ORA dp (R252, R144). -/
def execOraDp (ll : Byte) (s : State) : Result := .next (oraOp 0x05 (.mem (.dp ll)) s)

/-- 0x07 ORA [dp] (R252, R148). -/
def execOraDpIndL (ll : Byte) (s : State) : Result := .next (oraOp 0x07 (.mem (.dpIndL ll)) s)

/-- 0x09 ORA #const (R252, R143). -/
def execOraImm (imm : Word) (s : State) : Result := .next (oraOp 0x09 (.imm imm) s)

/-- 0x0D ORA addr (R252, R152). -/
def execOraAbs (hhll : Word) (s : State) : Result := .next (oraOp 0x0D (.mem (.abs hhll)) s)

/-- 0x0F ORA long (R252, R155). -/
def execOraLong (addr : Addr) (s : State) : Result := .next (oraOp 0x0F (.mem (.long addr)) s)

/-- 0x11 ORA (dp),Y (R252, R150). -/
def execOraDpIndY (ll : Byte) (s : State) : Result := .next (oraOp 0x11 (.mem (.dpIndY ll)) s)

/-- 0x12 ORA (dp) (R252, R147). -/
def execOraDpInd (ll : Byte) (s : State) : Result := .next (oraOp 0x12 (.mem (.dpInd ll)) s)

/-- 0x13 ORA (sr,S),Y (R252, R161). -/
def execOraSrIndY (ll : Byte) (s : State) : Result := .next (oraOp 0x13 (.mem (.srIndY ll)) s)

/-- 0x15 ORA dp,X (R252, R145). -/
def execOraDpX (ll : Byte) (s : State) : Result := .next (oraOp 0x15 (.mem (.dpX ll)) s)

/-- 0x17 ORA [dp],Y (R252, R151). -/
def execOraDpIndLY (ll : Byte) (s : State) : Result := .next (oraOp 0x17 (.mem (.dpIndLY ll)) s)

/-- 0x19 ORA addr,Y (R252, R154). -/
def execOraAbsY (hhll : Word) (s : State) : Result := .next (oraOp 0x19 (.mem (.absY hhll)) s)

/-- 0x1D ORA addr,X (R252, R153). -/
def execOraAbsX (hhll : Word) (s : State) : Result := .next (oraOp 0x1D (.mem (.absX hhll)) s)

/-- 0x1F ORA long,X (R252, R156). -/
def execOraLongX (addr : Addr) (s : State) : Result := .next (oraOp 0x1F (.mem (.longX addr)) s)

/-- EOR (R253): into A at `wA`, n and z. -/
def eorOp (op : Byte) (o : Operand) (s : State) : State :=
  let w := s.wA
  let res := s.getA w ^^^ o.read w op s
  (((o.afterRead w op s).setA w res).setNZ w res).advance (o.length w)

/-- 0x41 EOR (dp,X) (R253, R149). -/
def execEorDpXInd (ll : Byte) (s : State) : Result := .next (eorOp 0x41 (.mem (.dpXInd ll)) s)

/-- 0x43 EOR sr,S (R253, R160). -/
def execEorSr (ll : Byte) (s : State) : Result := .next (eorOp 0x43 (.mem (.sr ll)) s)

/-- 0x45 EOR dp (R253, R144). -/
def execEorDp (ll : Byte) (s : State) : Result := .next (eorOp 0x45 (.mem (.dp ll)) s)

/-- 0x47 EOR [dp] (R253, R148). -/
def execEorDpIndL (ll : Byte) (s : State) : Result := .next (eorOp 0x47 (.mem (.dpIndL ll)) s)

/-- 0x49 EOR #const (R253, R143). -/
def execEorImm (imm : Word) (s : State) : Result := .next (eorOp 0x49 (.imm imm) s)

/-- 0x4D EOR addr (R253, R152). -/
def execEorAbs (hhll : Word) (s : State) : Result := .next (eorOp 0x4D (.mem (.abs hhll)) s)

/-- 0x4F EOR long (R253, R155). -/
def execEorLong (addr : Addr) (s : State) : Result := .next (eorOp 0x4F (.mem (.long addr)) s)

/-- 0x51 EOR (dp),Y (R253, R150). -/
def execEorDpIndY (ll : Byte) (s : State) : Result := .next (eorOp 0x51 (.mem (.dpIndY ll)) s)

/-- 0x52 EOR (dp) (R253, R147). -/
def execEorDpInd (ll : Byte) (s : State) : Result := .next (eorOp 0x52 (.mem (.dpInd ll)) s)

/-- 0x53 EOR (sr,S),Y (R253, R161). -/
def execEorSrIndY (ll : Byte) (s : State) : Result := .next (eorOp 0x53 (.mem (.srIndY ll)) s)

/-- 0x55 EOR dp,X (R253, R145). -/
def execEorDpX (ll : Byte) (s : State) : Result := .next (eorOp 0x55 (.mem (.dpX ll)) s)

/-- 0x57 EOR [dp],Y (R253, R151). -/
def execEorDpIndLY (ll : Byte) (s : State) : Result := .next (eorOp 0x57 (.mem (.dpIndLY ll)) s)

/-- 0x59 EOR addr,Y (R253, R154). -/
def execEorAbsY (hhll : Word) (s : State) : Result := .next (eorOp 0x59 (.mem (.absY hhll)) s)

/-- 0x5D EOR addr,X (R253, R153). -/
def execEorAbsX (hhll : Word) (s : State) : Result := .next (eorOp 0x5D (.mem (.absX hhll)) s)

/-- 0x5F EOR long,X (R253, R156). -/
def execEorLongX (addr : Addr) (s : State) : Result := .next (eorOp 0x5F (.mem (.longX addr)) s)

/-- BIT (R254): z always; n and v from the operand's two top bits, for the memory forms only. -/
def bitOp (op : Byte) (o : Operand) (s : State) : State :=
  let w := s.wA
  let b := o.read w op s
  let t := (o.afterRead w op s).setZ (decide (s.getA w &&& b = 0))
  match o with
  | .imm _ => t.advance (o.length w)
  | .mem _ => { t with p := { t.p with n := w.sign b, v := b.getLsbD (w.bits - 2) } }.advance (o.length w)

/-- 0x24 BIT dp (R254, R144). -/
def execBitDp (ll : Byte) (s : State) : Result := .next (bitOp 0x24 (.mem (.dp ll)) s)

/-- 0x2C BIT addr (R254, R152). -/
def execBitAbs (hhll : Word) (s : State) : Result := .next (bitOp 0x2C (.mem (.abs hhll)) s)

/-- 0x34 BIT dp,X (R254, R145). -/
def execBitDpX (ll : Byte) (s : State) : Result := .next (bitOp 0x34 (.mem (.dpX ll)) s)

/-- 0x3C BIT addr,X (R254, R153). -/
def execBitAbsX (hhll : Word) (s : State) : Result := .next (bitOp 0x3C (.mem (.absX hhll)) s)

/-- 0x89 BIT #const (R254, R143). -/
def execBitImm (imm : Word) (s : State) : Result := .next (bitOp 0x89 (.imm imm) s)

/-- TSB (R255): z from A and the old operand, then the operand written back. -/
def tsbOp (op : Byte) (o : MemOperand) (s : State) : State :=
  let w := s.wA
  let b := o.read w op s
  (((o.afterRead w op s).setZ (decide (s.getA w &&& b = 0))).writeAt w (o.ea op s) (b ||| s.getA w)).advance o.length

/-- 0x04 TSB dp (R255, R144). -/
def execTsbDp (ll : Byte) (s : State) : Result := .next (tsbOp 0x04 (.dp ll) s)

/-- 0x0C TSB addr (R255, R152). -/
def execTsbAbs (hhll : Word) (s : State) : Result := .next (tsbOp 0x0C (.abs hhll) s)

/-- TRB (R256): z from A and the old operand, then the operand written back. -/
def trbOp (op : Byte) (o : MemOperand) (s : State) : State :=
  let w := s.wA
  let b := o.read w op s
  (((o.afterRead w op s).setZ (decide (s.getA w &&& b = 0))).writeAt w (o.ea op s) (b &&& ~~~(s.getA w))).advance o.length

/-- 0x14 TRB dp (R256, R144). -/
def execTrbDp (ll : Byte) (s : State) : Result := .next (trbOp 0x14 (.dp ll) s)

/-- 0x1C TRB addr (R256, R152). -/
def execTrbAbs (hhll : Word) (s : State) : Result := .next (trbOp 0x1C (.abs hhll) s)

end Sys2Proof.Machine
end

