-- ==== Sys2Proof/Machine/Shift.lean ====
section
/-! DEFINITION. Shifts and rotates (spec 42_arith_logic R263-R266). -/

namespace Sys2Proof.Machine

/-- ASL (R263): A or memory at `wA`, the bit shifted out into c, n and z. -/
def aslOp (op : Byte) (o : RmwOperand) (s : State) : State :=
  let w := s.wA
  let r := aslResult w (o.read w op s)
  (((o.write w op s r.1).setC r.2).setNZ w r.1).advance o.length

/-- 0x06 ASL dp (R263, R144). -/
def execAslDp (ll : Byte) (s : State) : Result := .next (aslOp 0x06 (.mem (.dp ll)) s)

/-- 0x0A ASL A (R263). -/
def execAslAcc (s : State) : Result := .next (aslOp 0x0A .acc s)

/-- 0x0E ASL addr (R263, R152). -/
def execAslAbs (hhll : Word) (s : State) : Result := .next (aslOp 0x0E (.mem (.abs hhll)) s)

/-- 0x16 ASL dp,X (R263, R145). -/
def execAslDpX (ll : Byte) (s : State) : Result := .next (aslOp 0x16 (.mem (.dpX ll)) s)

/-- 0x1E ASL addr,X (R263, R153). -/
def execAslAbsX (hhll : Word) (s : State) : Result := .next (aslOp 0x1E (.mem (.absX hhll)) s)

/-- LSR (R264): A or memory at `wA`, the bit shifted out into c, n and z. -/
def lsrOp (op : Byte) (o : RmwOperand) (s : State) : State :=
  let w := s.wA
  let r := lsrResult w (o.read w op s)
  (((o.write w op s r.1).setC r.2).setNZ w r.1).advance o.length

/-- 0x46 LSR dp (R264, R144). -/
def execLsrDp (ll : Byte) (s : State) : Result := .next (lsrOp 0x46 (.mem (.dp ll)) s)

/-- 0x4A LSR A (R264). -/
def execLsrAcc (s : State) : Result := .next (lsrOp 0x4A .acc s)

/-- 0x4E LSR addr (R264, R152). -/
def execLsrAbs (hhll : Word) (s : State) : Result := .next (lsrOp 0x4E (.mem (.abs hhll)) s)

/-- 0x56 LSR dp,X (R264, R145). -/
def execLsrDpX (ll : Byte) (s : State) : Result := .next (lsrOp 0x56 (.mem (.dpX ll)) s)

/-- 0x5E LSR addr,X (R264, R153). -/
def execLsrAbsX (hhll : Word) (s : State) : Result := .next (lsrOp 0x5E (.mem (.absX hhll)) s)

/-- ROL (R265): A or memory at `wA`, the bit shifted out into c, n and z. -/
def rolOp (op : Byte) (o : RmwOperand) (s : State) : State :=
  let w := s.wA
  let r := rolResult w s.p.c (o.read w op s)
  (((o.write w op s r.1).setC r.2).setNZ w r.1).advance o.length

/-- 0x26 ROL dp (R265, R144). -/
def execRolDp (ll : Byte) (s : State) : Result := .next (rolOp 0x26 (.mem (.dp ll)) s)

/-- 0x2A ROL A (R265). -/
def execRolAcc (s : State) : Result := .next (rolOp 0x2A .acc s)

/-- 0x2E ROL addr (R265, R152). -/
def execRolAbs (hhll : Word) (s : State) : Result := .next (rolOp 0x2E (.mem (.abs hhll)) s)

/-- 0x36 ROL dp,X (R265, R145). -/
def execRolDpX (ll : Byte) (s : State) : Result := .next (rolOp 0x36 (.mem (.dpX ll)) s)

/-- 0x3E ROL addr,X (R265, R153). -/
def execRolAbsX (hhll : Word) (s : State) : Result := .next (rolOp 0x3E (.mem (.absX hhll)) s)

/-- ROR (R266): A or memory at `wA`, the bit shifted out into c, n and z. -/
def rorOp (op : Byte) (o : RmwOperand) (s : State) : State :=
  let w := s.wA
  let r := rorResult w s.p.c (o.read w op s)
  (((o.write w op s r.1).setC r.2).setNZ w r.1).advance o.length

/-- 0x66 ROR dp (R266, R144). -/
def execRorDp (ll : Byte) (s : State) : Result := .next (rorOp 0x66 (.mem (.dp ll)) s)

/-- 0x6A ROR A (R266). -/
def execRorAcc (s : State) : Result := .next (rorOp 0x6A .acc s)

/-- 0x6E ROR addr (R266, R152). -/
def execRorAbs (hhll : Word) (s : State) : Result := .next (rorOp 0x6E (.mem (.abs hhll)) s)

/-- 0x76 ROR dp,X (R266, R145). -/
def execRorDpX (ll : Byte) (s : State) : Result := .next (rorOp 0x76 (.mem (.dpX ll)) s)

/-- 0x7E ROR addr,X (R266, R153). -/
def execRorAbsX (hhll : Word) (s : State) : Result := .next (rorOp 0x7E (.mem (.absX hhll)) s)

end Sys2Proof.Machine
end

