-- ==== Sys2Proof/Machine/Stack.lean ====
section
/-! DEFINITION. Push and pull instructions (spec 44_stack R341-R357). -/

namespace Sys2Proof.Machine

/-- PHA (R342): A at `wA`. -/
def phaOp (s : State) : State := (s.pushAt s.wA s.a).advance 1

/-- 0x48 PHA (R342). -/
def execPha (s : State) : Result := .next (phaOp s)

/-- PHX (R343): X at `wX`. -/
def phxOp (s : State) : State := (s.pushAt s.wX s.x).advance 1

/-- 0xDA PHX (R343). -/
def execPhx (s : State) : Result := .next (phxOp s)

/-- PHY (R344): Y at `wX`. -/
def phyOp (s : State) : State := (s.pushAt s.wX s.y).advance 1

/-- 0x5A PHY (R344). -/
def execPhy (s : State) : Result := .next (phyOp s)

/-- PHB (R345): DBR, one byte. -/
def phbOp (s : State) : State := (s.push8 s.dbr).advance 1

/-- 0x8B PHB (R345). -/
def execPhb (s : State) : Result := .next (phbOp s)

/-- PHD (R346): D, two bytes. -/
def phdOp (s : State) : State := (s.push16 s.d).advance 1

/-- 0x0B PHD (R346). -/
def execPhd (s : State) : Result := .next (phdOp s)

/-- PHK (R347): PBR, one byte. -/
def phkOp (s : State) : State := (s.push8 s.pbr).advance 1

/-- 0x4B PHK (R347). -/
def execPhk (s : State) : Result := .next (phkOp s)

/-- PHP (R348): the status byte; bit 4 is 1 in emulation mode. -/
def phpOp (s : State) : State := (s.push8 (s.p.pack true)).advance 1

/-- 0x08 PHP (R348). -/
def execPhp (s : State) : Result := .next (phpOp s)

/-- PEA (R349): the 16-bit immediate, whatever m and x are (D34). -/
def peaOp (imm : Word) (s : State) : State := (s.push16 imm).advance 3

/-- 0xF4 PEA addr (R349, R143). -/
def execPea (imm : Word) (s : State) : Result := .next (peaOp imm s)

/-- PEI (R350): the pointer at the direct address, not what it points to. -/
def peiOp (op : Byte) (ll : Byte) (s : State) : State :=
  let p := s.directAddr op ll 0
  ((s.noteReads (pointerBytes16 p)).push16 (s.pointer16 p)).advance 2

/-- 0xD4 PEI (dp) (R350, R147). -/
def execPei (ll : Byte) (s : State) : Result := .next (peiOp 0xD4 ll s)

/-- PER (R351): the Relative16 target. -/
def perOp (d : Word) (s : State) : State := (s.push16 (rel16Target s.pc d)).advance 3

/-- 0x62 PER label (R351, R163). -/
def execPer (d : Word) (s : State) : Result := .next (perOp d s)

/-- PLA (R352): A at `wA`, n and z from the pulled value. -/
def plaOp (s : State) : State :=
  let w := s.wA
  let r := s.pullAt w
  ((r.2.setA w r.1).setNZ w r.1).advance 1

/-- 0x68 PLA (R352). -/
def execPla (s : State) : Result := .next (plaOp s)

/-- PLX (R353): X at `wX`, n and z from the pulled value. -/
def plxOp (s : State) : State :=
  let w := s.wX
  let r := s.pullAt w
  ((r.2.setX w r.1).setNZ w r.1).advance 1

/-- 0xFA PLX (R353). -/
def execPlx (s : State) : Result := .next (plxOp s)

/-- PLY (R354): Y at `wX`, n and z from the pulled value. -/
def plyOp (s : State) : State :=
  let w := s.wX
  let r := s.pullAt w
  ((r.2.setY w r.1).setNZ w r.1).advance 1

/-- 0x7A PLY (R354). -/
def execPly (s : State) : Result := .next (plyOp s)

/-- PLB (R355): DBR, n and z at 8 bits (D41). -/
def plbOp (s : State) : State :=
  let r := s.pull8
  (({ r.2 with dbr := r.1 } : State).setNZ .w8 (zextByte r.1)).advance 1

/-- 0xAB PLB (R355). -/
def execPlb (s : State) : Result := .next (plbOp s)

/-- PLD (R356): D, n and z at 16 bits. -/
def pldOp (s : State) : State :=
  let r := s.pull16
  (({ r.2 with d := r.1 } : State).setNZ .w16 r.1).advance 1

/-- 0x2B PLD (R356). -/
def execPld (s : State) : Result := .next (pldOp s)

/-- PLP (R357). -/
def plpOp (s : State) : State := (s.pull8.2.unpack s.pull8.1).advance 1

/-- 0x28 PLP (R357). -/
def execPlp (s : State) : Result := .next (plpOp s)

end Sys2Proof.Machine
end

