-- ==== Sys2Proof/Machine/Status.lean ====
section
/-! DEFINITION. Flag, mode, halt and trap instructions (spec 45_status_system R381-R397). -/

namespace Sys2Proof.Machine

/-- CLC (R381). -/
def clcOp (s : State) : State := ({ s with p := { s.p with c := false } } : State).advance 1

/-- 0x18 CLC (R381). -/
def execClc (s : State) : Result := .next (clcOp s)

/-- SEC (R382). -/
def secOp (s : State) : State := ({ s with p := { s.p with c := true } } : State).advance 1

/-- 0x38 SEC (R382). -/
def execSec (s : State) : Result := .next (secOp s)

/-- CLI (R383). -/
def cliOp (s : State) : State := ({ s with p := { s.p with i := false } } : State).advance 1

/-- 0x58 CLI (R383). -/
def execCli (s : State) : Result := .next (cliOp s)

/-- SEI (R384). -/
def seiOp (s : State) : State := ({ s with p := { s.p with i := true } } : State).advance 1

/-- 0x78 SEI (R384). -/
def execSei (s : State) : Result := .next (seiOp s)

/-- CLD (R385). -/
def cldOp (s : State) : State := ({ s with p := { s.p with d := false } } : State).advance 1

/-- 0xD8 CLD (R385). -/
def execCld (s : State) : Result := .next (cldOp s)

/-- SED (R386). -/
def sedOp (s : State) : State := ({ s with p := { s.p with d := true } } : State).advance 1

/-- 0xF8 SED (R386). -/
def execSed (s : State) : Result := .next (sedOp s)

/-- CLV (R387). -/
def clvOp (s : State) : State := ({ s with p := { s.p with v := false } } : State).advance 1

/-- 0xB8 CLV (R387). -/
def execClv (s : State) : Result := .next (clvOp s)

/-- The flags with those selected by the mask, in the native layout of R45, set to `f`; e and b never. -/
def Flags.setMask (p : Flags) (k : Byte) (f : Bool) : Flags :=
  let sel := fun (j : Nat) (old : Bool) => if k.getLsbD j then f else old
  { p with n := sel 7 p.n, v := sel 6 p.v, m := sel 5 p.m, x := sel 4 p.x, d := sel 3 p.d, i := sel 2 p.i,
           z := sel 1 p.z, c := sel 0 p.c }

/-- REP (R388). -/
def repOp (mask : Byte) (s : State) : State :=
  ({ s with p := s.p.setMask mask false } : State).fixWidths.advance 2

/-- 0xC2 REP #const (R388, R143). -/
def execRep (mask : Byte) (s : State) : Result := .next (repOp mask s)

/-- SEP (R389). -/
def sepOp (mask : Byte) (s : State) : State :=
  ({ s with p := s.p.setMask mask true } : State).fixWidths.advance 2

/-- 0xE2 SEP #const (R389, R143). -/
def execSep (mask : Byte) (s : State) : Result := .next (sepOp mask s)

/-- XCE (R390). -/
def xceOp (s : State) : State :=
  ({ s with p := { s.p with c := s.p.e, e := s.p.c } } : State).fixWidths.advance 1

/-- 0xFB XCE (R390). -/
def execXce (s : State) : Result := .next (xceOp s)

/-- NOP (R391). -/
def nopOp (s : State) : State := s.advance 1

/-- 0xEA NOP (R391). -/
def execNop (s : State) : Result := .next (nopOp s)

/-- WDM (R392): under `P_WDM = fault` the unmapped-opcode fault with PC at I0 + 1, under `nop2` one ignored byte. -/
def wdmOp (_sig : Byte) (s : State) : State :=
  match s.params.wdm with
  | .fault => (s.raiseFault .unmappedOpcode s.pc 0x42).advance 1
  | .nop2 => s.advance 2

/-- 0x42 WDM #const (R392, R143). -/
def execWdm (sig : Byte) (s : State) : Result := .next (wdmOp sig s)

/-- WAI (R393). -/
def waiOp (s : State) : State := ({ s with run := .halted } : State).advance 1

/-- 0xCB WAI (R393). -/
def execWai (s : State) : Result := .next (waiOp s)

/-- STP (R394): the same state as WAI (D21). -/
def stpOp (s : State) : State := ({ s with run := .halted } : State).advance 1

/-- 0xDB STP (R394). -/
def execStp (s : State) : Result := .next (stpOp s)

/-- BRK (R395): the signature is fetched and ignored, then the trap entry. -/
def brkOp (_sig : Byte) (s : State) : State := (s.advance 2).enter .brk

/-- 0x00 BRK #const (R395, R143). -/
def execBrk (sig : Byte) (s : State) : Result := .next (brkOp sig s)

/-- COP (R396). -/
def copOp (_sig : Byte) (s : State) : State := (s.advance 2).enter .cop

/-- 0x02 COP #const (R396, R143). -/
def execCop (sig : Byte) (s : State) : Result := .next (copOp sig s)

/-- RTI (R397). -/
def rtiOp (s : State) : State := s.returnFromTrap

/-- 0x40 RTI (R397). -/
def execRti (s : State) : Result := .next (rtiOp s)

end Sys2Proof.Machine
end

