-- ==== Sys2Proof/Machine/Transfer.lean ====
section
/-! DEFINITION. Register transfers (spec 41_load_store_transfer R199-R211): the destination sets the width. -/

namespace Sys2Proof.Machine

/-- TAX (R199): A into X at `wX`, n and z. -/
def taxOp (s : State) : State :=
  let t := s.setX s.wX s.a
  (t.setNZ s.wX t.x).advance 1

/-- 0xAA TAX (R199). -/
def execTax (s : State) : Result := .next (taxOp s)

/-- TAY (R200): A into Y at `wX`, n and z. -/
def tayOp (s : State) : State :=
  let t := s.setY s.wX s.a
  (t.setNZ s.wX t.y).advance 1

/-- 0xA8 TAY (R200). -/
def execTay (s : State) : Result := .next (tayOp s)

/-- TXA (R201): X into A at `wA`, n and z. -/
def txaOp (s : State) : State :=
  let t := s.setA s.wA s.x
  (t.setNZ s.wA (t.getA s.wA)).advance 1

/-- 0x8A TXA (R201). -/
def execTxa (s : State) : Result := .next (txaOp s)

/-- TYA (R202): Y into A at `wA`, n and z. -/
def tyaOp (s : State) : State :=
  let t := s.setA s.wA s.y
  (t.setNZ s.wA (t.getA s.wA)).advance 1

/-- 0x98 TYA (R202). -/
def execTya (s : State) : Result := .next (tyaOp s)

/-- TXY (R203): X into Y at `wX`, n and z. -/
def txyOp (s : State) : State :=
  let t := s.setY s.wX s.x
  (t.setNZ s.wX t.y).advance 1

/-- 0x9B TXY (R203). -/
def execTxy (s : State) : Result := .next (txyOp s)

/-- TYX (R204): Y into X at `wX`, n and z. -/
def tyxOp (s : State) : State :=
  let t := s.setX s.wX s.y
  (t.setNZ s.wX t.x).advance 1

/-- 0xBB TYX (R204). -/
def execTyx (s : State) : Result := .next (tyxOp s)

/-- TSX (R205): SP into X at `wX`, n and z. -/
def tsxOp (s : State) : State :=
  let t := s.setX s.wX s.sp
  (t.setNZ s.wX t.x).advance 1

/-- 0xBA TSX (R205). -/
def execTsx (s : State) : Result := .next (tsxOp s)

/-- TXS (R206): X into SP, pinned to page 1 in emulation mode, no flag. -/
def txsOp (s : State) : State :=
  (s.setSp s.x).advance 1

/-- 0x9A TXS (R206). -/
def execTxs (s : State) : Result := .next (txsOp s)

/-- TCS (R207): the 16-bit A into SP, pinned to page 1 in emulation mode, no flag. -/
def tcsOp (s : State) : State :=
  (s.setSp s.a).advance 1

/-- 0x1B TCS (R207). -/
def execTcs (s : State) : Result := .next (tcsOp s)

/-- TSC (R208): SP into the 16-bit A, n and z at 16 bits. -/
def tscOp (s : State) : State :=
  ((s.setA .w16 s.sp).setNZ .w16 s.sp).advance 1

/-- 0x3B TSC (R208). -/
def execTsc (s : State) : Result := .next (tscOp s)

/-- TCD (R209): the 16-bit A into D, n and z at 16 bits. -/
def tcdOp (s : State) : State :=
  (({ s with d := s.a } : State).setNZ .w16 s.a).advance 1

/-- 0x5B TCD (R209). -/
def execTcd (s : State) : Result := .next (tcdOp s)

/-- TDC (R210): D into the 16-bit A, n and z at 16 bits. -/
def tdcOp (s : State) : State :=
  ((s.setA .w16 s.d).setNZ .w16 s.d).advance 1

/-- 0x7B TDC (R210). -/
def execTdc (s : State) : Result := .next (tdcOp s)

/-- XBA (R211): the bytes of A exchanged, n and z from the new low byte. -/
def xbaOp (s : State) : State :=
  let v := wordOf (loByte s.a) (hiByte s.a)
  ((s.setA .w16 v).setNZ .w8 v).advance 1

/-- 0xEB XBA (R211). -/
def execXba (s : State) : Result := .next (xbaOp s)

end Sys2Proof.Machine
end

