-- ==== Sys2Proof/Machine/Dispatch.lean ====
section
/-! DEFINITION. The dispatch (spec 60_exceptions R433, 30_encoding R118): one arm per constructor of Instr, in opcode order. -/

namespace Sys2Proof.Machine

def exec (i : Instr) (s : State) : Host.Outcome State Fault Refusal :=
  match i with
  | .brk sig => Sys2Proof.Machine.execBrk sig s
  | .oraDpXInd ll => Sys2Proof.Machine.execOraDpXInd ll s
  | .cop sig => Sys2Proof.Machine.execCop sig s
  | .oraSr ll => Sys2Proof.Machine.execOraSr ll s
  | .tsbDp ll => Sys2Proof.Machine.execTsbDp ll s
  | .oraDp ll => Sys2Proof.Machine.execOraDp ll s
  | .aslDp ll => Sys2Proof.Machine.execAslDp ll s
  | .oraDpIndL ll => Sys2Proof.Machine.execOraDpIndL ll s
  | .php => Sys2Proof.Machine.execPhp s
  | .oraImm imm => Sys2Proof.Machine.execOraImm imm s
  | .aslAcc => Sys2Proof.Machine.execAslAcc s
  | .phd => Sys2Proof.Machine.execPhd s
  | .tsbAbs hhll => Sys2Proof.Machine.execTsbAbs hhll s
  | .oraAbs hhll => Sys2Proof.Machine.execOraAbs hhll s
  | .aslAbs hhll => Sys2Proof.Machine.execAslAbs hhll s
  | .oraLong addr => Sys2Proof.Machine.execOraLong addr s
  | .bpl d => Sys2Proof.Machine.execBpl d s
  | .oraDpIndY ll => Sys2Proof.Machine.execOraDpIndY ll s
  | .oraDpInd ll => Sys2Proof.Machine.execOraDpInd ll s
  | .oraSrIndY ll => Sys2Proof.Machine.execOraSrIndY ll s
  | .trbDp ll => Sys2Proof.Machine.execTrbDp ll s
  | .oraDpX ll => Sys2Proof.Machine.execOraDpX ll s
  | .aslDpX ll => Sys2Proof.Machine.execAslDpX ll s
  | .oraDpIndLY ll => Sys2Proof.Machine.execOraDpIndLY ll s
  | .clc => Sys2Proof.Machine.execClc s
  | .oraAbsY hhll => Sys2Proof.Machine.execOraAbsY hhll s
  | .incAcc => Sys2Proof.Machine.execIncAcc s
  | .tcs => Sys2Proof.Machine.execTcs s
  | .trbAbs hhll => Sys2Proof.Machine.execTrbAbs hhll s
  | .oraAbsX hhll => Sys2Proof.Machine.execOraAbsX hhll s
  | .aslAbsX hhll => Sys2Proof.Machine.execAslAbsX hhll s
  | .oraLongX addr => Sys2Proof.Machine.execOraLongX addr s
  | .jsrAbs hhll => Sys2Proof.Machine.execJsrAbs hhll s
  | .andDpXInd ll => Sys2Proof.Machine.execAndDpXInd ll s
  | .jsl addr => Sys2Proof.Machine.execJsl addr s
  | .andSr ll => Sys2Proof.Machine.execAndSr ll s
  | .bitDp ll => Sys2Proof.Machine.execBitDp ll s
  | .andDp ll => Sys2Proof.Machine.execAndDp ll s
  | .rolDp ll => Sys2Proof.Machine.execRolDp ll s
  | .andDpIndL ll => Sys2Proof.Machine.execAndDpIndL ll s
  | .plp => Sys2Proof.Machine.execPlp s
  | .andImm imm => Sys2Proof.Machine.execAndImm imm s
  | .rolAcc => Sys2Proof.Machine.execRolAcc s
  | .pld => Sys2Proof.Machine.execPld s
  | .bitAbs hhll => Sys2Proof.Machine.execBitAbs hhll s
  | .andAbs hhll => Sys2Proof.Machine.execAndAbs hhll s
  | .rolAbs hhll => Sys2Proof.Machine.execRolAbs hhll s
  | .andLong addr => Sys2Proof.Machine.execAndLong addr s
  | .bmi d => Sys2Proof.Machine.execBmi d s
  | .andDpIndY ll => Sys2Proof.Machine.execAndDpIndY ll s
  | .andDpInd ll => Sys2Proof.Machine.execAndDpInd ll s
  | .andSrIndY ll => Sys2Proof.Machine.execAndSrIndY ll s
  | .bitDpX ll => Sys2Proof.Machine.execBitDpX ll s
  | .andDpX ll => Sys2Proof.Machine.execAndDpX ll s
  | .rolDpX ll => Sys2Proof.Machine.execRolDpX ll s
  | .andDpIndLY ll => Sys2Proof.Machine.execAndDpIndLY ll s
  | .sec => Sys2Proof.Machine.execSec s
  | .andAbsY hhll => Sys2Proof.Machine.execAndAbsY hhll s
  | .decAcc => Sys2Proof.Machine.execDecAcc s
  | .tsc => Sys2Proof.Machine.execTsc s
  | .bitAbsX hhll => Sys2Proof.Machine.execBitAbsX hhll s
  | .andAbsX hhll => Sys2Proof.Machine.execAndAbsX hhll s
  | .rolAbsX hhll => Sys2Proof.Machine.execRolAbsX hhll s
  | .andLongX addr => Sys2Proof.Machine.execAndLongX addr s
  | .rti => Sys2Proof.Machine.execRti s
  | .eorDpXInd ll => Sys2Proof.Machine.execEorDpXInd ll s
  | .wdm sig => Sys2Proof.Machine.execWdm sig s
  | .eorSr ll => Sys2Proof.Machine.execEorSr ll s
  | .mvp dst src => Sys2Proof.Machine.execMvp dst src s
  | .eorDp ll => Sys2Proof.Machine.execEorDp ll s
  | .lsrDp ll => Sys2Proof.Machine.execLsrDp ll s
  | .eorDpIndL ll => Sys2Proof.Machine.execEorDpIndL ll s
  | .pha => Sys2Proof.Machine.execPha s
  | .eorImm imm => Sys2Proof.Machine.execEorImm imm s
  | .lsrAcc => Sys2Proof.Machine.execLsrAcc s
  | .phk => Sys2Proof.Machine.execPhk s
  | .jmpAbs hhll => Sys2Proof.Machine.execJmpAbs hhll s
  | .eorAbs hhll => Sys2Proof.Machine.execEorAbs hhll s
  | .lsrAbs hhll => Sys2Proof.Machine.execLsrAbs hhll s
  | .eorLong addr => Sys2Proof.Machine.execEorLong addr s
  | .bvc d => Sys2Proof.Machine.execBvc d s
  | .eorDpIndY ll => Sys2Proof.Machine.execEorDpIndY ll s
  | .eorDpInd ll => Sys2Proof.Machine.execEorDpInd ll s
  | .eorSrIndY ll => Sys2Proof.Machine.execEorSrIndY ll s
  | .mvn dst src => Sys2Proof.Machine.execMvn dst src s
  | .eorDpX ll => Sys2Proof.Machine.execEorDpX ll s
  | .lsrDpX ll => Sys2Proof.Machine.execLsrDpX ll s
  | .eorDpIndLY ll => Sys2Proof.Machine.execEorDpIndLY ll s
  | .cli => Sys2Proof.Machine.execCli s
  | .eorAbsY hhll => Sys2Proof.Machine.execEorAbsY hhll s
  | .phy => Sys2Proof.Machine.execPhy s
  | .tcd => Sys2Proof.Machine.execTcd s
  | .jmlLong addr => Sys2Proof.Machine.execJmlLong addr s
  | .eorAbsX hhll => Sys2Proof.Machine.execEorAbsX hhll s
  | .lsrAbsX hhll => Sys2Proof.Machine.execLsrAbsX hhll s
  | .eorLongX addr => Sys2Proof.Machine.execEorLongX addr s
  | .rts => Sys2Proof.Machine.execRts s
  | .adcDpXInd ll => Sys2Proof.Machine.execAdcDpXInd ll s
  | .per d => Sys2Proof.Machine.execPer d s
  | .adcSr ll => Sys2Proof.Machine.execAdcSr ll s
  | .stzDp ll => Sys2Proof.Machine.execStzDp ll s
  | .adcDp ll => Sys2Proof.Machine.execAdcDp ll s
  | .rorDp ll => Sys2Proof.Machine.execRorDp ll s
  | .adcDpIndL ll => Sys2Proof.Machine.execAdcDpIndL ll s
  | .pla => Sys2Proof.Machine.execPla s
  | .adcImm imm => Sys2Proof.Machine.execAdcImm imm s
  | .rorAcc => Sys2Proof.Machine.execRorAcc s
  | .rtl => Sys2Proof.Machine.execRtl s
  | .jmpAbsInd hhll => Sys2Proof.Machine.execJmpAbsInd hhll s
  | .adcAbs hhll => Sys2Proof.Machine.execAdcAbs hhll s
  | .rorAbs hhll => Sys2Proof.Machine.execRorAbs hhll s
  | .adcLong addr => Sys2Proof.Machine.execAdcLong addr s
  | .bvs d => Sys2Proof.Machine.execBvs d s
  | .adcDpIndY ll => Sys2Proof.Machine.execAdcDpIndY ll s
  | .adcDpInd ll => Sys2Proof.Machine.execAdcDpInd ll s
  | .adcSrIndY ll => Sys2Proof.Machine.execAdcSrIndY ll s
  | .stzDpX ll => Sys2Proof.Machine.execStzDpX ll s
  | .adcDpX ll => Sys2Proof.Machine.execAdcDpX ll s
  | .rorDpX ll => Sys2Proof.Machine.execRorDpX ll s
  | .adcDpIndLY ll => Sys2Proof.Machine.execAdcDpIndLY ll s
  | .sei => Sys2Proof.Machine.execSei s
  | .adcAbsY hhll => Sys2Proof.Machine.execAdcAbsY hhll s
  | .ply => Sys2Proof.Machine.execPly s
  | .tdc => Sys2Proof.Machine.execTdc s
  | .jmpAbsXInd hhll => Sys2Proof.Machine.execJmpAbsXInd hhll s
  | .adcAbsX hhll => Sys2Proof.Machine.execAdcAbsX hhll s
  | .rorAbsX hhll => Sys2Proof.Machine.execRorAbsX hhll s
  | .adcLongX addr => Sys2Proof.Machine.execAdcLongX addr s
  | .bra d => Sys2Proof.Machine.execBra d s
  | .staDpXInd ll => Sys2Proof.Machine.execStaDpXInd ll s
  | .brl d => Sys2Proof.Machine.execBrl d s
  | .staSr ll => Sys2Proof.Machine.execStaSr ll s
  | .styDp ll => Sys2Proof.Machine.execStyDp ll s
  | .staDp ll => Sys2Proof.Machine.execStaDp ll s
  | .stxDp ll => Sys2Proof.Machine.execStxDp ll s
  | .staDpIndL ll => Sys2Proof.Machine.execStaDpIndL ll s
  | .dey => Sys2Proof.Machine.execDey s
  | .bitImm imm => Sys2Proof.Machine.execBitImm imm s
  | .txa => Sys2Proof.Machine.execTxa s
  | .phb => Sys2Proof.Machine.execPhb s
  | .styAbs hhll => Sys2Proof.Machine.execStyAbs hhll s
  | .staAbs hhll => Sys2Proof.Machine.execStaAbs hhll s
  | .stxAbs hhll => Sys2Proof.Machine.execStxAbs hhll s
  | .staLong addr => Sys2Proof.Machine.execStaLong addr s
  | .bcc d => Sys2Proof.Machine.execBcc d s
  | .staDpIndY ll => Sys2Proof.Machine.execStaDpIndY ll s
  | .staDpInd ll => Sys2Proof.Machine.execStaDpInd ll s
  | .staSrIndY ll => Sys2Proof.Machine.execStaSrIndY ll s
  | .styDpX ll => Sys2Proof.Machine.execStyDpX ll s
  | .staDpX ll => Sys2Proof.Machine.execStaDpX ll s
  | .stxDpY ll => Sys2Proof.Machine.execStxDpY ll s
  | .staDpIndLY ll => Sys2Proof.Machine.execStaDpIndLY ll s
  | .tya => Sys2Proof.Machine.execTya s
  | .staAbsY hhll => Sys2Proof.Machine.execStaAbsY hhll s
  | .txs => Sys2Proof.Machine.execTxs s
  | .txy => Sys2Proof.Machine.execTxy s
  | .stzAbs hhll => Sys2Proof.Machine.execStzAbs hhll s
  | .staAbsX hhll => Sys2Proof.Machine.execStaAbsX hhll s
  | .stzAbsX hhll => Sys2Proof.Machine.execStzAbsX hhll s
  | .staLongX addr => Sys2Proof.Machine.execStaLongX addr s
  | .ldyImm imm => Sys2Proof.Machine.execLdyImm imm s
  | .ldaDpXInd ll => Sys2Proof.Machine.execLdaDpXInd ll s
  | .ldxImm imm => Sys2Proof.Machine.execLdxImm imm s
  | .ldaSr ll => Sys2Proof.Machine.execLdaSr ll s
  | .ldyDp ll => Sys2Proof.Machine.execLdyDp ll s
  | .ldaDp ll => Sys2Proof.Machine.execLdaDp ll s
  | .ldxDp ll => Sys2Proof.Machine.execLdxDp ll s
  | .ldaDpIndL ll => Sys2Proof.Machine.execLdaDpIndL ll s
  | .tay => Sys2Proof.Machine.execTay s
  | .ldaImm imm => Sys2Proof.Machine.execLdaImm imm s
  | .tax => Sys2Proof.Machine.execTax s
  | .plb => Sys2Proof.Machine.execPlb s
  | .ldyAbs hhll => Sys2Proof.Machine.execLdyAbs hhll s
  | .ldaAbs hhll => Sys2Proof.Machine.execLdaAbs hhll s
  | .ldxAbs hhll => Sys2Proof.Machine.execLdxAbs hhll s
  | .ldaLong addr => Sys2Proof.Machine.execLdaLong addr s
  | .bcs d => Sys2Proof.Machine.execBcs d s
  | .ldaDpIndY ll => Sys2Proof.Machine.execLdaDpIndY ll s
  | .ldaDpInd ll => Sys2Proof.Machine.execLdaDpInd ll s
  | .ldaSrIndY ll => Sys2Proof.Machine.execLdaSrIndY ll s
  | .ldyDpX ll => Sys2Proof.Machine.execLdyDpX ll s
  | .ldaDpX ll => Sys2Proof.Machine.execLdaDpX ll s
  | .ldxDpY ll => Sys2Proof.Machine.execLdxDpY ll s
  | .ldaDpIndLY ll => Sys2Proof.Machine.execLdaDpIndLY ll s
  | .clv => Sys2Proof.Machine.execClv s
  | .ldaAbsY hhll => Sys2Proof.Machine.execLdaAbsY hhll s
  | .tsx => Sys2Proof.Machine.execTsx s
  | .tyx => Sys2Proof.Machine.execTyx s
  | .ldyAbsX hhll => Sys2Proof.Machine.execLdyAbsX hhll s
  | .ldaAbsX hhll => Sys2Proof.Machine.execLdaAbsX hhll s
  | .ldxAbsY hhll => Sys2Proof.Machine.execLdxAbsY hhll s
  | .ldaLongX addr => Sys2Proof.Machine.execLdaLongX addr s
  | .cpyImm imm => Sys2Proof.Machine.execCpyImm imm s
  | .cmpDpXInd ll => Sys2Proof.Machine.execCmpDpXInd ll s
  | .rep mask => Sys2Proof.Machine.execRep mask s
  | .cmpSr ll => Sys2Proof.Machine.execCmpSr ll s
  | .cpyDp ll => Sys2Proof.Machine.execCpyDp ll s
  | .cmpDp ll => Sys2Proof.Machine.execCmpDp ll s
  | .decDp ll => Sys2Proof.Machine.execDecDp ll s
  | .cmpDpIndL ll => Sys2Proof.Machine.execCmpDpIndL ll s
  | .iny => Sys2Proof.Machine.execIny s
  | .cmpImm imm => Sys2Proof.Machine.execCmpImm imm s
  | .dex => Sys2Proof.Machine.execDex s
  | .wai => Sys2Proof.Machine.execWai s
  | .cpyAbs hhll => Sys2Proof.Machine.execCpyAbs hhll s
  | .cmpAbs hhll => Sys2Proof.Machine.execCmpAbs hhll s
  | .decAbs hhll => Sys2Proof.Machine.execDecAbs hhll s
  | .cmpLong addr => Sys2Proof.Machine.execCmpLong addr s
  | .bne d => Sys2Proof.Machine.execBne d s
  | .cmpDpIndY ll => Sys2Proof.Machine.execCmpDpIndY ll s
  | .cmpDpInd ll => Sys2Proof.Machine.execCmpDpInd ll s
  | .cmpSrIndY ll => Sys2Proof.Machine.execCmpSrIndY ll s
  | .pei ll => Sys2Proof.Machine.execPei ll s
  | .cmpDpX ll => Sys2Proof.Machine.execCmpDpX ll s
  | .decDpX ll => Sys2Proof.Machine.execDecDpX ll s
  | .cmpDpIndLY ll => Sys2Proof.Machine.execCmpDpIndLY ll s
  | .cld => Sys2Proof.Machine.execCld s
  | .cmpAbsY hhll => Sys2Proof.Machine.execCmpAbsY hhll s
  | .phx => Sys2Proof.Machine.execPhx s
  | .stp => Sys2Proof.Machine.execStp s
  | .jmlAbsIndL hhll => Sys2Proof.Machine.execJmlAbsIndL hhll s
  | .cmpAbsX hhll => Sys2Proof.Machine.execCmpAbsX hhll s
  | .decAbsX hhll => Sys2Proof.Machine.execDecAbsX hhll s
  | .cmpLongX addr => Sys2Proof.Machine.execCmpLongX addr s
  | .cpxImm imm => Sys2Proof.Machine.execCpxImm imm s
  | .sbcDpXInd ll => Sys2Proof.Machine.execSbcDpXInd ll s
  | .sep mask => Sys2Proof.Machine.execSep mask s
  | .sbcSr ll => Sys2Proof.Machine.execSbcSr ll s
  | .cpxDp ll => Sys2Proof.Machine.execCpxDp ll s
  | .sbcDp ll => Sys2Proof.Machine.execSbcDp ll s
  | .incDp ll => Sys2Proof.Machine.execIncDp ll s
  | .sbcDpIndL ll => Sys2Proof.Machine.execSbcDpIndL ll s
  | .inx => Sys2Proof.Machine.execInx s
  | .sbcImm imm => Sys2Proof.Machine.execSbcImm imm s
  | .nop => Sys2Proof.Machine.execNop s
  | .xba => Sys2Proof.Machine.execXba s
  | .cpxAbs hhll => Sys2Proof.Machine.execCpxAbs hhll s
  | .sbcAbs hhll => Sys2Proof.Machine.execSbcAbs hhll s
  | .incAbs hhll => Sys2Proof.Machine.execIncAbs hhll s
  | .sbcLong addr => Sys2Proof.Machine.execSbcLong addr s
  | .beq d => Sys2Proof.Machine.execBeq d s
  | .sbcDpIndY ll => Sys2Proof.Machine.execSbcDpIndY ll s
  | .sbcDpInd ll => Sys2Proof.Machine.execSbcDpInd ll s
  | .sbcSrIndY ll => Sys2Proof.Machine.execSbcSrIndY ll s
  | .pea imm => Sys2Proof.Machine.execPea imm s
  | .sbcDpX ll => Sys2Proof.Machine.execSbcDpX ll s
  | .incDpX ll => Sys2Proof.Machine.execIncDpX ll s
  | .sbcDpIndLY ll => Sys2Proof.Machine.execSbcDpIndLY ll s
  | .sed => Sys2Proof.Machine.execSed s
  | .sbcAbsY hhll => Sys2Proof.Machine.execSbcAbsY hhll s
  | .plx => Sys2Proof.Machine.execPlx s
  | .xce => Sys2Proof.Machine.execXce s
  | .jsrAbsXInd hhll => Sys2Proof.Machine.execJsrAbsXInd hhll s
  | .sbcAbsX hhll => Sys2Proof.Machine.execSbcAbsX hhll s
  | .incAbsX hhll => Sys2Proof.Machine.execIncAbsX hhll s
  | .sbcLongX addr => Sys2Proof.Machine.execSbcLongX addr s

end Sys2Proof.Machine
end

