-- ==== Sys2Proof/Machine/OpcodeTable.lean ====
section
/-! DEFINITION. The opcode list of spec 30_encoding R116 read from the instruction's side: each constructor's mnemonic,
addressing-mode tag, opcode byte and operand. -/

namespace Sys2Proof

/-- A row of R116 with the operand of one instruction. -/
structure InstrRow where
  mnemonic : Mnemonic
  tag : Tag
  opcode : Byte
  payload : Payload
deriving DecidableEq, Repr

/-- The row of R116 an instruction belongs to, with its operand (R114, R116). -/
def Instr.row : Instr → InstrRow
  | .brk sig => ⟨.brk, .imm8, 0x00, .byte sig⟩
  | .oraDpXInd ll => ⟨.ora, .dpXInd, 0x01, .byte ll⟩
  | .cop sig => ⟨.cop, .imm8, 0x02, .byte sig⟩
  | .oraSr ll => ⟨.ora, .sr, 0x03, .byte ll⟩
  | .tsbDp ll => ⟨.tsb, .dp, 0x04, .byte ll⟩
  | .oraDp ll => ⟨.ora, .dp, 0x05, .byte ll⟩
  | .aslDp ll => ⟨.asl, .dp, 0x06, .byte ll⟩
  | .oraDpIndL ll => ⟨.ora, .dpIndL, 0x07, .byte ll⟩
  | .php => ⟨.php, .imp, 0x08, .none⟩
  | .oraImm imm => ⟨.ora, .immM, 0x09, .word imm⟩
  | .aslAcc => ⟨.asl, .acc, 0x0A, .none⟩
  | .phd => ⟨.phd, .imp, 0x0B, .none⟩
  | .tsbAbs hhll => ⟨.tsb, .abs, 0x0C, .word hhll⟩
  | .oraAbs hhll => ⟨.ora, .abs, 0x0D, .word hhll⟩
  | .aslAbs hhll => ⟨.asl, .abs, 0x0E, .word hhll⟩
  | .oraLong addr => ⟨.ora, .long, 0x0F, .long addr⟩
  | .bpl d => ⟨.bpl, .rel8, 0x10, .byte d⟩
  | .oraDpIndY ll => ⟨.ora, .dpIndY, 0x11, .byte ll⟩
  | .oraDpInd ll => ⟨.ora, .dpInd, 0x12, .byte ll⟩
  | .oraSrIndY ll => ⟨.ora, .srIndY, 0x13, .byte ll⟩
  | .trbDp ll => ⟨.trb, .dp, 0x14, .byte ll⟩
  | .oraDpX ll => ⟨.ora, .dpX, 0x15, .byte ll⟩
  | .aslDpX ll => ⟨.asl, .dpX, 0x16, .byte ll⟩
  | .oraDpIndLY ll => ⟨.ora, .dpIndLY, 0x17, .byte ll⟩
  | .clc => ⟨.clc, .imp, 0x18, .none⟩
  | .oraAbsY hhll => ⟨.ora, .absY, 0x19, .word hhll⟩
  | .incAcc => ⟨.inc, .acc, 0x1A, .none⟩
  | .tcs => ⟨.tcs, .imp, 0x1B, .none⟩
  | .trbAbs hhll => ⟨.trb, .abs, 0x1C, .word hhll⟩
  | .oraAbsX hhll => ⟨.ora, .absX, 0x1D, .word hhll⟩
  | .aslAbsX hhll => ⟨.asl, .absX, 0x1E, .word hhll⟩
  | .oraLongX addr => ⟨.ora, .longX, 0x1F, .long addr⟩
  | .jsrAbs hhll => ⟨.jsr, .abs, 0x20, .word hhll⟩
  | .andDpXInd ll => ⟨.and, .dpXInd, 0x21, .byte ll⟩
  | .jsl addr => ⟨.jsl, .long, 0x22, .long addr⟩
  | .andSr ll => ⟨.and, .sr, 0x23, .byte ll⟩
  | .bitDp ll => ⟨.bit, .dp, 0x24, .byte ll⟩
  | .andDp ll => ⟨.and, .dp, 0x25, .byte ll⟩
  | .rolDp ll => ⟨.rol, .dp, 0x26, .byte ll⟩
  | .andDpIndL ll => ⟨.and, .dpIndL, 0x27, .byte ll⟩
  | .plp => ⟨.plp, .imp, 0x28, .none⟩
  | .andImm imm => ⟨.and, .immM, 0x29, .word imm⟩
  | .rolAcc => ⟨.rol, .acc, 0x2A, .none⟩
  | .pld => ⟨.pld, .imp, 0x2B, .none⟩
  | .bitAbs hhll => ⟨.bit, .abs, 0x2C, .word hhll⟩
  | .andAbs hhll => ⟨.and, .abs, 0x2D, .word hhll⟩
  | .rolAbs hhll => ⟨.rol, .abs, 0x2E, .word hhll⟩
  | .andLong addr => ⟨.and, .long, 0x2F, .long addr⟩
  | .bmi d => ⟨.bmi, .rel8, 0x30, .byte d⟩
  | .andDpIndY ll => ⟨.and, .dpIndY, 0x31, .byte ll⟩
  | .andDpInd ll => ⟨.and, .dpInd, 0x32, .byte ll⟩
  | .andSrIndY ll => ⟨.and, .srIndY, 0x33, .byte ll⟩
  | .bitDpX ll => ⟨.bit, .dpX, 0x34, .byte ll⟩
  | .andDpX ll => ⟨.and, .dpX, 0x35, .byte ll⟩
  | .rolDpX ll => ⟨.rol, .dpX, 0x36, .byte ll⟩
  | .andDpIndLY ll => ⟨.and, .dpIndLY, 0x37, .byte ll⟩
  | .sec => ⟨.sec, .imp, 0x38, .none⟩
  | .andAbsY hhll => ⟨.and, .absY, 0x39, .word hhll⟩
  | .decAcc => ⟨.dec, .acc, 0x3A, .none⟩
  | .tsc => ⟨.tsc, .imp, 0x3B, .none⟩
  | .bitAbsX hhll => ⟨.bit, .absX, 0x3C, .word hhll⟩
  | .andAbsX hhll => ⟨.and, .absX, 0x3D, .word hhll⟩
  | .rolAbsX hhll => ⟨.rol, .absX, 0x3E, .word hhll⟩
  | .andLongX addr => ⟨.and, .longX, 0x3F, .long addr⟩
  | .rti => ⟨.rti, .imp, 0x40, .none⟩
  | .eorDpXInd ll => ⟨.eor, .dpXInd, 0x41, .byte ll⟩
  | .wdm sig => ⟨.wdm, .imm8, 0x42, .byte sig⟩
  | .eorSr ll => ⟨.eor, .sr, 0x43, .byte ll⟩
  | .mvp dst src => ⟨.mvp, .blk, 0x44, .banks dst src⟩
  | .eorDp ll => ⟨.eor, .dp, 0x45, .byte ll⟩
  | .lsrDp ll => ⟨.lsr, .dp, 0x46, .byte ll⟩
  | .eorDpIndL ll => ⟨.eor, .dpIndL, 0x47, .byte ll⟩
  | .pha => ⟨.pha, .imp, 0x48, .none⟩
  | .eorImm imm => ⟨.eor, .immM, 0x49, .word imm⟩
  | .lsrAcc => ⟨.lsr, .acc, 0x4A, .none⟩
  | .phk => ⟨.phk, .imp, 0x4B, .none⟩
  | .jmpAbs hhll => ⟨.jmp, .abs, 0x4C, .word hhll⟩
  | .eorAbs hhll => ⟨.eor, .abs, 0x4D, .word hhll⟩
  | .lsrAbs hhll => ⟨.lsr, .abs, 0x4E, .word hhll⟩
  | .eorLong addr => ⟨.eor, .long, 0x4F, .long addr⟩
  | .bvc d => ⟨.bvc, .rel8, 0x50, .byte d⟩
  | .eorDpIndY ll => ⟨.eor, .dpIndY, 0x51, .byte ll⟩
  | .eorDpInd ll => ⟨.eor, .dpInd, 0x52, .byte ll⟩
  | .eorSrIndY ll => ⟨.eor, .srIndY, 0x53, .byte ll⟩
  | .mvn dst src => ⟨.mvn, .blk, 0x54, .banks dst src⟩
  | .eorDpX ll => ⟨.eor, .dpX, 0x55, .byte ll⟩
  | .lsrDpX ll => ⟨.lsr, .dpX, 0x56, .byte ll⟩
  | .eorDpIndLY ll => ⟨.eor, .dpIndLY, 0x57, .byte ll⟩
  | .cli => ⟨.cli, .imp, 0x58, .none⟩
  | .eorAbsY hhll => ⟨.eor, .absY, 0x59, .word hhll⟩
  | .phy => ⟨.phy, .imp, 0x5A, .none⟩
  | .tcd => ⟨.tcd, .imp, 0x5B, .none⟩
  | .jmlLong addr => ⟨.jml, .long, 0x5C, .long addr⟩
  | .eorAbsX hhll => ⟨.eor, .absX, 0x5D, .word hhll⟩
  | .lsrAbsX hhll => ⟨.lsr, .absX, 0x5E, .word hhll⟩
  | .eorLongX addr => ⟨.eor, .longX, 0x5F, .long addr⟩
  | .rts => ⟨.rts, .imp, 0x60, .none⟩
  | .adcDpXInd ll => ⟨.adc, .dpXInd, 0x61, .byte ll⟩
  | .per d => ⟨.per, .rel16, 0x62, .word d⟩
  | .adcSr ll => ⟨.adc, .sr, 0x63, .byte ll⟩
  | .stzDp ll => ⟨.stz, .dp, 0x64, .byte ll⟩
  | .adcDp ll => ⟨.adc, .dp, 0x65, .byte ll⟩
  | .rorDp ll => ⟨.ror, .dp, 0x66, .byte ll⟩
  | .adcDpIndL ll => ⟨.adc, .dpIndL, 0x67, .byte ll⟩
  | .pla => ⟨.pla, .imp, 0x68, .none⟩
  | .adcImm imm => ⟨.adc, .immM, 0x69, .word imm⟩
  | .rorAcc => ⟨.ror, .acc, 0x6A, .none⟩
  | .rtl => ⟨.rtl, .imp, 0x6B, .none⟩
  | .jmpAbsInd hhll => ⟨.jmp, .absInd, 0x6C, .word hhll⟩
  | .adcAbs hhll => ⟨.adc, .abs, 0x6D, .word hhll⟩
  | .rorAbs hhll => ⟨.ror, .abs, 0x6E, .word hhll⟩
  | .adcLong addr => ⟨.adc, .long, 0x6F, .long addr⟩
  | .bvs d => ⟨.bvs, .rel8, 0x70, .byte d⟩
  | .adcDpIndY ll => ⟨.adc, .dpIndY, 0x71, .byte ll⟩
  | .adcDpInd ll => ⟨.adc, .dpInd, 0x72, .byte ll⟩
  | .adcSrIndY ll => ⟨.adc, .srIndY, 0x73, .byte ll⟩
  | .stzDpX ll => ⟨.stz, .dpX, 0x74, .byte ll⟩
  | .adcDpX ll => ⟨.adc, .dpX, 0x75, .byte ll⟩
  | .rorDpX ll => ⟨.ror, .dpX, 0x76, .byte ll⟩
  | .adcDpIndLY ll => ⟨.adc, .dpIndLY, 0x77, .byte ll⟩
  | .sei => ⟨.sei, .imp, 0x78, .none⟩
  | .adcAbsY hhll => ⟨.adc, .absY, 0x79, .word hhll⟩
  | .ply => ⟨.ply, .imp, 0x7A, .none⟩
  | .tdc => ⟨.tdc, .imp, 0x7B, .none⟩
  | .jmpAbsXInd hhll => ⟨.jmp, .absXInd, 0x7C, .word hhll⟩
  | .adcAbsX hhll => ⟨.adc, .absX, 0x7D, .word hhll⟩
  | .rorAbsX hhll => ⟨.ror, .absX, 0x7E, .word hhll⟩
  | .adcLongX addr => ⟨.adc, .longX, 0x7F, .long addr⟩
  | .bra d => ⟨.bra, .rel8, 0x80, .byte d⟩
  | .staDpXInd ll => ⟨.sta, .dpXInd, 0x81, .byte ll⟩
  | .brl d => ⟨.brl, .rel16, 0x82, .word d⟩
  | .staSr ll => ⟨.sta, .sr, 0x83, .byte ll⟩
  | .styDp ll => ⟨.sty, .dp, 0x84, .byte ll⟩
  | .staDp ll => ⟨.sta, .dp, 0x85, .byte ll⟩
  | .stxDp ll => ⟨.stx, .dp, 0x86, .byte ll⟩
  | .staDpIndL ll => ⟨.sta, .dpIndL, 0x87, .byte ll⟩
  | .dey => ⟨.dey, .imp, 0x88, .none⟩
  | .bitImm imm => ⟨.bit, .immM, 0x89, .word imm⟩
  | .txa => ⟨.txa, .imp, 0x8A, .none⟩
  | .phb => ⟨.phb, .imp, 0x8B, .none⟩
  | .styAbs hhll => ⟨.sty, .abs, 0x8C, .word hhll⟩
  | .staAbs hhll => ⟨.sta, .abs, 0x8D, .word hhll⟩
  | .stxAbs hhll => ⟨.stx, .abs, 0x8E, .word hhll⟩
  | .staLong addr => ⟨.sta, .long, 0x8F, .long addr⟩
  | .bcc d => ⟨.bcc, .rel8, 0x90, .byte d⟩
  | .staDpIndY ll => ⟨.sta, .dpIndY, 0x91, .byte ll⟩
  | .staDpInd ll => ⟨.sta, .dpInd, 0x92, .byte ll⟩
  | .staSrIndY ll => ⟨.sta, .srIndY, 0x93, .byte ll⟩
  | .styDpX ll => ⟨.sty, .dpX, 0x94, .byte ll⟩
  | .staDpX ll => ⟨.sta, .dpX, 0x95, .byte ll⟩
  | .stxDpY ll => ⟨.stx, .dpY, 0x96, .byte ll⟩
  | .staDpIndLY ll => ⟨.sta, .dpIndLY, 0x97, .byte ll⟩
  | .tya => ⟨.tya, .imp, 0x98, .none⟩
  | .staAbsY hhll => ⟨.sta, .absY, 0x99, .word hhll⟩
  | .txs => ⟨.txs, .imp, 0x9A, .none⟩
  | .txy => ⟨.txy, .imp, 0x9B, .none⟩
  | .stzAbs hhll => ⟨.stz, .abs, 0x9C, .word hhll⟩
  | .staAbsX hhll => ⟨.sta, .absX, 0x9D, .word hhll⟩
  | .stzAbsX hhll => ⟨.stz, .absX, 0x9E, .word hhll⟩
  | .staLongX addr => ⟨.sta, .longX, 0x9F, .long addr⟩
  | .ldyImm imm => ⟨.ldy, .immX, 0xA0, .word imm⟩
  | .ldaDpXInd ll => ⟨.lda, .dpXInd, 0xA1, .byte ll⟩
  | .ldxImm imm => ⟨.ldx, .immX, 0xA2, .word imm⟩
  | .ldaSr ll => ⟨.lda, .sr, 0xA3, .byte ll⟩
  | .ldyDp ll => ⟨.ldy, .dp, 0xA4, .byte ll⟩
  | .ldaDp ll => ⟨.lda, .dp, 0xA5, .byte ll⟩
  | .ldxDp ll => ⟨.ldx, .dp, 0xA6, .byte ll⟩
  | .ldaDpIndL ll => ⟨.lda, .dpIndL, 0xA7, .byte ll⟩
  | .tay => ⟨.tay, .imp, 0xA8, .none⟩
  | .ldaImm imm => ⟨.lda, .immM, 0xA9, .word imm⟩
  | .tax => ⟨.tax, .imp, 0xAA, .none⟩
  | .plb => ⟨.plb, .imp, 0xAB, .none⟩
  | .ldyAbs hhll => ⟨.ldy, .abs, 0xAC, .word hhll⟩
  | .ldaAbs hhll => ⟨.lda, .abs, 0xAD, .word hhll⟩
  | .ldxAbs hhll => ⟨.ldx, .abs, 0xAE, .word hhll⟩
  | .ldaLong addr => ⟨.lda, .long, 0xAF, .long addr⟩
  | .bcs d => ⟨.bcs, .rel8, 0xB0, .byte d⟩
  | .ldaDpIndY ll => ⟨.lda, .dpIndY, 0xB1, .byte ll⟩
  | .ldaDpInd ll => ⟨.lda, .dpInd, 0xB2, .byte ll⟩
  | .ldaSrIndY ll => ⟨.lda, .srIndY, 0xB3, .byte ll⟩
  | .ldyDpX ll => ⟨.ldy, .dpX, 0xB4, .byte ll⟩
  | .ldaDpX ll => ⟨.lda, .dpX, 0xB5, .byte ll⟩
  | .ldxDpY ll => ⟨.ldx, .dpY, 0xB6, .byte ll⟩
  | .ldaDpIndLY ll => ⟨.lda, .dpIndLY, 0xB7, .byte ll⟩
  | .clv => ⟨.clv, .imp, 0xB8, .none⟩
  | .ldaAbsY hhll => ⟨.lda, .absY, 0xB9, .word hhll⟩
  | .tsx => ⟨.tsx, .imp, 0xBA, .none⟩
  | .tyx => ⟨.tyx, .imp, 0xBB, .none⟩
  | .ldyAbsX hhll => ⟨.ldy, .absX, 0xBC, .word hhll⟩
  | .ldaAbsX hhll => ⟨.lda, .absX, 0xBD, .word hhll⟩
  | .ldxAbsY hhll => ⟨.ldx, .absY, 0xBE, .word hhll⟩
  | .ldaLongX addr => ⟨.lda, .longX, 0xBF, .long addr⟩
  | .cpyImm imm => ⟨.cpy, .immX, 0xC0, .word imm⟩
  | .cmpDpXInd ll => ⟨.cmp, .dpXInd, 0xC1, .byte ll⟩
  | .rep mask => ⟨.rep, .imm8, 0xC2, .byte mask⟩
  | .cmpSr ll => ⟨.cmp, .sr, 0xC3, .byte ll⟩
  | .cpyDp ll => ⟨.cpy, .dp, 0xC4, .byte ll⟩
  | .cmpDp ll => ⟨.cmp, .dp, 0xC5, .byte ll⟩
  | .decDp ll => ⟨.dec, .dp, 0xC6, .byte ll⟩
  | .cmpDpIndL ll => ⟨.cmp, .dpIndL, 0xC7, .byte ll⟩
  | .iny => ⟨.iny, .imp, 0xC8, .none⟩
  | .cmpImm imm => ⟨.cmp, .immM, 0xC9, .word imm⟩
  | .dex => ⟨.dex, .imp, 0xCA, .none⟩
  | .wai => ⟨.wai, .imp, 0xCB, .none⟩
  | .cpyAbs hhll => ⟨.cpy, .abs, 0xCC, .word hhll⟩
  | .cmpAbs hhll => ⟨.cmp, .abs, 0xCD, .word hhll⟩
  | .decAbs hhll => ⟨.dec, .abs, 0xCE, .word hhll⟩
  | .cmpLong addr => ⟨.cmp, .long, 0xCF, .long addr⟩
  | .bne d => ⟨.bne, .rel8, 0xD0, .byte d⟩
  | .cmpDpIndY ll => ⟨.cmp, .dpIndY, 0xD1, .byte ll⟩
  | .cmpDpInd ll => ⟨.cmp, .dpInd, 0xD2, .byte ll⟩
  | .cmpSrIndY ll => ⟨.cmp, .srIndY, 0xD3, .byte ll⟩
  | .pei ll => ⟨.pei, .dpInd, 0xD4, .byte ll⟩
  | .cmpDpX ll => ⟨.cmp, .dpX, 0xD5, .byte ll⟩
  | .decDpX ll => ⟨.dec, .dpX, 0xD6, .byte ll⟩
  | .cmpDpIndLY ll => ⟨.cmp, .dpIndLY, 0xD7, .byte ll⟩
  | .cld => ⟨.cld, .imp, 0xD8, .none⟩
  | .cmpAbsY hhll => ⟨.cmp, .absY, 0xD9, .word hhll⟩
  | .phx => ⟨.phx, .imp, 0xDA, .none⟩
  | .stp => ⟨.stp, .imp, 0xDB, .none⟩
  | .jmlAbsIndL hhll => ⟨.jml, .absIndL, 0xDC, .word hhll⟩
  | .cmpAbsX hhll => ⟨.cmp, .absX, 0xDD, .word hhll⟩
  | .decAbsX hhll => ⟨.dec, .absX, 0xDE, .word hhll⟩
  | .cmpLongX addr => ⟨.cmp, .longX, 0xDF, .long addr⟩
  | .cpxImm imm => ⟨.cpx, .immX, 0xE0, .word imm⟩
  | .sbcDpXInd ll => ⟨.sbc, .dpXInd, 0xE1, .byte ll⟩
  | .sep mask => ⟨.sep, .imm8, 0xE2, .byte mask⟩
  | .sbcSr ll => ⟨.sbc, .sr, 0xE3, .byte ll⟩
  | .cpxDp ll => ⟨.cpx, .dp, 0xE4, .byte ll⟩
  | .sbcDp ll => ⟨.sbc, .dp, 0xE5, .byte ll⟩
  | .incDp ll => ⟨.inc, .dp, 0xE6, .byte ll⟩
  | .sbcDpIndL ll => ⟨.sbc, .dpIndL, 0xE7, .byte ll⟩
  | .inx => ⟨.inx, .imp, 0xE8, .none⟩
  | .sbcImm imm => ⟨.sbc, .immM, 0xE9, .word imm⟩
  | .nop => ⟨.nop, .imp, 0xEA, .none⟩
  | .xba => ⟨.xba, .imp, 0xEB, .none⟩
  | .cpxAbs hhll => ⟨.cpx, .abs, 0xEC, .word hhll⟩
  | .sbcAbs hhll => ⟨.sbc, .abs, 0xED, .word hhll⟩
  | .incAbs hhll => ⟨.inc, .abs, 0xEE, .word hhll⟩
  | .sbcLong addr => ⟨.sbc, .long, 0xEF, .long addr⟩
  | .beq d => ⟨.beq, .rel8, 0xF0, .byte d⟩
  | .sbcDpIndY ll => ⟨.sbc, .dpIndY, 0xF1, .byte ll⟩
  | .sbcDpInd ll => ⟨.sbc, .dpInd, 0xF2, .byte ll⟩
  | .sbcSrIndY ll => ⟨.sbc, .srIndY, 0xF3, .byte ll⟩
  | .pea imm => ⟨.pea, .imm16, 0xF4, .word imm⟩
  | .sbcDpX ll => ⟨.sbc, .dpX, 0xF5, .byte ll⟩
  | .incDpX ll => ⟨.inc, .dpX, 0xF6, .byte ll⟩
  | .sbcDpIndLY ll => ⟨.sbc, .dpIndLY, 0xF7, .byte ll⟩
  | .sed => ⟨.sed, .imp, 0xF8, .none⟩
  | .sbcAbsY hhll => ⟨.sbc, .absY, 0xF9, .word hhll⟩
  | .plx => ⟨.plx, .imp, 0xFA, .none⟩
  | .xce => ⟨.xce, .imp, 0xFB, .none⟩
  | .jsrAbsXInd hhll => ⟨.jsr, .absXInd, 0xFC, .word hhll⟩
  | .sbcAbsX hhll => ⟨.sbc, .absX, 0xFD, .word hhll⟩
  | .incAbsX hhll => ⟨.inc, .absX, 0xFE, .word hhll⟩
  | .sbcLongX addr => ⟨.sbc, .longX, 0xFF, .long addr⟩

/-- The instruction's mnemonic (R116). -/
def Instr.mnemonic (i : Instr) : Mnemonic := i.row.mnemonic

/-- The instruction's addressing-mode tag (R116). -/
def Instr.tag (i : Instr) : Tag := i.row.tag

/-- The instruction's opcode byte (R116). -/
def Instr.opcode (i : Instr) : Byte := i.row.opcode

/-- The instruction's operand (R114). -/
def Instr.payload (i : Instr) : Payload := i.row.payload

/-- The number of operand bytes of a tag, by the current m and x (R113, R123). -/
def Tag.operandBytes (m x : Bool) : Tag → Nat
  | .immM => if m then 1 else 2
  | .immX => if x then 1 else 2
  | .imm8 => 1
  | .imm16 => 2
  | .dp => 1
  | .dpX => 1
  | .dpY => 1
  | .dpInd => 1
  | .dpIndL => 1
  | .dpXInd => 1
  | .dpIndY => 1
  | .dpIndLY => 1
  | .abs => 2
  | .absX => 2
  | .absY => 2
  | .long => 3
  | .longX => 3
  | .absInd => 2
  | .absIndL => 2
  | .absXInd => 2
  | .sr => 1
  | .srIndY => 1
  | .rel8 => 1
  | .rel16 => 2
  | .acc => 0
  | .imp => 0
  | .blk => 2

/-- `length(op, m, x) = 1 + operand_bytes(tag(op))` (R123). -/
def Instr.length (m x : Bool) (i : Instr) : Nat := 1 + i.tag.operandBytes m x

end Sys2Proof
end

