-- ==== Sys2Proof/WellFormed.lean ====
section
/-! DEFINITION. When an instruction is one that the core can decode under the current widths: an 8-bit immediate
is zero-extended (spec 30_encoding R114), so its high byte is zero. Every other operand value is legal (R119). -/

namespace Sys2Proof

/-- An immediate fits the width that the flag selects: at width 8 its high byte is zero (R114). -/
def immFits (narrow : Bool) : Payload → Bool
  | .word v => !narrow || hiByte v == 0
  | _ => true

/-- The instruction can be decoded under the width flags m and x. -/
def Instr.wellFormed (m x : Bool) (i : Instr) : Bool :=
  match i.tag with
  | .immM => immFits m i.payload
  | .immX => immFits x i.payload
  | _ => true

end Sys2Proof
end

