-- ==== Sys2Proof/Decode.lean ====
section
/-! DEFINITION. Decoding and encoding (spec 30_encoding R111-R119, R122, R123): the opcode map R115 as sixteen rows
of sixteen entries, indexed by the opcode byte; the decoder, total on any bytes; the encoder. -/

namespace Sys2Proof

/-- An entry of the opcode map: how the operand bytes after the opcode make the instruction (R113, R114). -/
inductive OpEntry where
  | imp (i : Instr)
  | byte (mk : Byte → Instr)
  | word (mk : Word → Instr)
  | long (mk : Addr → Instr)
  | immM (mk : Word → Instr)
  | immX (mk : Word → Instr)
  | banks (mk : Byte → Byte → Instr)

/-- Why a byte list is not an instruction. Every opcode byte is mapped (R115), so the only reason is that bytes are
missing; `WDM`, the reserved opcode, decodes to its own instruction, whose meaning is R392's. -/
inductive DecodeError where
  /-- There is no opcode byte. -/
  | noBytes
  /-- The operand bytes of the opcode are not all there. -/
  | truncated (opcode : Byte)
deriving DecidableEq, Repr

/-- Opcodes 0x00 to 0x0F of R115. -/
def opRow0 : List OpEntry :=
  [.byte .brk, .byte .oraDpXInd, .byte .cop, .byte .oraSr,
   .byte .tsbDp, .byte .oraDp, .byte .aslDp, .byte .oraDpIndL,
   .imp .php, .immM .oraImm, .imp .aslAcc, .imp .phd,
   .word .tsbAbs, .word .oraAbs, .word .aslAbs, .long .oraLong]

/-- Opcodes 0x10 to 0x1F of R115. -/
def opRow1 : List OpEntry :=
  [.byte .bpl, .byte .oraDpIndY, .byte .oraDpInd, .byte .oraSrIndY,
   .byte .trbDp, .byte .oraDpX, .byte .aslDpX, .byte .oraDpIndLY,
   .imp .clc, .word .oraAbsY, .imp .incAcc, .imp .tcs,
   .word .trbAbs, .word .oraAbsX, .word .aslAbsX, .long .oraLongX]

/-- Opcodes 0x20 to 0x2F of R115. -/
def opRow2 : List OpEntry :=
  [.word .jsrAbs, .byte .andDpXInd, .long .jsl, .byte .andSr,
   .byte .bitDp, .byte .andDp, .byte .rolDp, .byte .andDpIndL,
   .imp .plp, .immM .andImm, .imp .rolAcc, .imp .pld,
   .word .bitAbs, .word .andAbs, .word .rolAbs, .long .andLong]

/-- Opcodes 0x30 to 0x3F of R115. -/
def opRow3 : List OpEntry :=
  [.byte .bmi, .byte .andDpIndY, .byte .andDpInd, .byte .andSrIndY,
   .byte .bitDpX, .byte .andDpX, .byte .rolDpX, .byte .andDpIndLY,
   .imp .sec, .word .andAbsY, .imp .decAcc, .imp .tsc,
   .word .bitAbsX, .word .andAbsX, .word .rolAbsX, .long .andLongX]

/-- Opcodes 0x40 to 0x4F of R115. -/
def opRow4 : List OpEntry :=
  [.imp .rti, .byte .eorDpXInd, .byte .wdm, .byte .eorSr,
   .banks .mvp, .byte .eorDp, .byte .lsrDp, .byte .eorDpIndL,
   .imp .pha, .immM .eorImm, .imp .lsrAcc, .imp .phk,
   .word .jmpAbs, .word .eorAbs, .word .lsrAbs, .long .eorLong]

/-- Opcodes 0x50 to 0x5F of R115. -/
def opRow5 : List OpEntry :=
  [.byte .bvc, .byte .eorDpIndY, .byte .eorDpInd, .byte .eorSrIndY,
   .banks .mvn, .byte .eorDpX, .byte .lsrDpX, .byte .eorDpIndLY,
   .imp .cli, .word .eorAbsY, .imp .phy, .imp .tcd,
   .long .jmlLong, .word .eorAbsX, .word .lsrAbsX, .long .eorLongX]

/-- Opcodes 0x60 to 0x6F of R115. -/
def opRow6 : List OpEntry :=
  [.imp .rts, .byte .adcDpXInd, .word .per, .byte .adcSr,
   .byte .stzDp, .byte .adcDp, .byte .rorDp, .byte .adcDpIndL,
   .imp .pla, .immM .adcImm, .imp .rorAcc, .imp .rtl,
   .word .jmpAbsInd, .word .adcAbs, .word .rorAbs, .long .adcLong]

/-- Opcodes 0x70 to 0x7F of R115. -/
def opRow7 : List OpEntry :=
  [.byte .bvs, .byte .adcDpIndY, .byte .adcDpInd, .byte .adcSrIndY,
   .byte .stzDpX, .byte .adcDpX, .byte .rorDpX, .byte .adcDpIndLY,
   .imp .sei, .word .adcAbsY, .imp .ply, .imp .tdc,
   .word .jmpAbsXInd, .word .adcAbsX, .word .rorAbsX, .long .adcLongX]

/-- Opcodes 0x80 to 0x8F of R115. -/
def opRow8 : List OpEntry :=
  [.byte .bra, .byte .staDpXInd, .word .brl, .byte .staSr,
   .byte .styDp, .byte .staDp, .byte .stxDp, .byte .staDpIndL,
   .imp .dey, .immM .bitImm, .imp .txa, .imp .phb,
   .word .styAbs, .word .staAbs, .word .stxAbs, .long .staLong]

/-- Opcodes 0x90 to 0x9F of R115. -/
def opRow9 : List OpEntry :=
  [.byte .bcc, .byte .staDpIndY, .byte .staDpInd, .byte .staSrIndY,
   .byte .styDpX, .byte .staDpX, .byte .stxDpY, .byte .staDpIndLY,
   .imp .tya, .word .staAbsY, .imp .txs, .imp .txy,
   .word .stzAbs, .word .staAbsX, .word .stzAbsX, .long .staLongX]

/-- Opcodes 0xA0 to 0xAF of R115. -/
def opRowA : List OpEntry :=
  [.immX .ldyImm, .byte .ldaDpXInd, .immX .ldxImm, .byte .ldaSr,
   .byte .ldyDp, .byte .ldaDp, .byte .ldxDp, .byte .ldaDpIndL,
   .imp .tay, .immM .ldaImm, .imp .tax, .imp .plb,
   .word .ldyAbs, .word .ldaAbs, .word .ldxAbs, .long .ldaLong]

/-- Opcodes 0xB0 to 0xBF of R115. -/
def opRowB : List OpEntry :=
  [.byte .bcs, .byte .ldaDpIndY, .byte .ldaDpInd, .byte .ldaSrIndY,
   .byte .ldyDpX, .byte .ldaDpX, .byte .ldxDpY, .byte .ldaDpIndLY,
   .imp .clv, .word .ldaAbsY, .imp .tsx, .imp .tyx,
   .word .ldyAbsX, .word .ldaAbsX, .word .ldxAbsY, .long .ldaLongX]

/-- Opcodes 0xC0 to 0xCF of R115. -/
def opRowC : List OpEntry :=
  [.immX .cpyImm, .byte .cmpDpXInd, .byte .rep, .byte .cmpSr,
   .byte .cpyDp, .byte .cmpDp, .byte .decDp, .byte .cmpDpIndL,
   .imp .iny, .immM .cmpImm, .imp .dex, .imp .wai,
   .word .cpyAbs, .word .cmpAbs, .word .decAbs, .long .cmpLong]

/-- Opcodes 0xD0 to 0xDF of R115. -/
def opRowD : List OpEntry :=
  [.byte .bne, .byte .cmpDpIndY, .byte .cmpDpInd, .byte .cmpSrIndY,
   .byte .pei, .byte .cmpDpX, .byte .decDpX, .byte .cmpDpIndLY,
   .imp .cld, .word .cmpAbsY, .imp .phx, .imp .stp,
   .word .jmlAbsIndL, .word .cmpAbsX, .word .decAbsX, .long .cmpLongX]

/-- Opcodes 0xE0 to 0xEF of R115. -/
def opRowE : List OpEntry :=
  [.immX .cpxImm, .byte .sbcDpXInd, .byte .sep, .byte .sbcSr,
   .byte .cpxDp, .byte .sbcDp, .byte .incDp, .byte .sbcDpIndL,
   .imp .inx, .immM .sbcImm, .imp .nop, .imp .xba,
   .word .cpxAbs, .word .sbcAbs, .word .incAbs, .long .sbcLong]

/-- Opcodes 0xF0 to 0xFF of R115. -/
def opRowF : List OpEntry :=
  [.byte .beq, .byte .sbcDpIndY, .byte .sbcDpInd, .byte .sbcSrIndY,
   .word .pea, .byte .sbcDpX, .byte .incDpX, .byte .sbcDpIndLY,
   .imp .sed, .word .sbcAbsY, .imp .plx, .imp .xce,
   .word .jsrAbsXInd, .word .sbcAbsX, .word .incAbsX, .long .sbcLongX]

/-- The opcode map, rows by the high nibble of the opcode byte (R115). -/
def opMap : List (List OpEntry) :=
  [opRow0, opRow1, opRow2, opRow3, opRow4, opRow5, opRow6, opRow7,
   opRow8, opRow9, opRowA, opRowB, opRowC, opRowD, opRowE, opRowF]

/-- The entry of an opcode byte (R118). The map has 256 entries, so the default, the reserved WDM, is never used. -/
def opEntry (op : Byte) : OpEntry :=
  (opMap.getD (op.toNat / 16) []).getD (op.toNat % 16) (.byte .wdm)

/-- How many operand bytes an entry takes under m and x (R113). -/
def OpEntry.operandBytes (m x : Bool) : OpEntry → Nat
  | .imp _ => 0
  | .byte _ => 1
  | .word _ => 2
  | .long _ => 3
  | .immM _ => if m then 1 else 2
  | .immX _ => if x then 1 else 2
  | .banks _ => 2

/-- An immediate of one or two bytes, zero-extended to 16 bits (R114). -/
def immOf (narrow : Bool) (b1 b2 : Byte) : Word := wordOf (if narrow then 0 else b2) b1

/-- The instruction an entry makes from the bytes after the opcode, in fetch order (R114). Bytes past the operand are not
looked at. -/
def OpEntry.build (m x : Bool) (b1 b2 b3 : Byte) : OpEntry → Instr
  | .imp i => i
  | .byte mk => mk b1
  | .word mk => mk (wordOf b2 b1)
  | .long mk => mk (longOf b3 b2 b1)
  | .immM mk => mk (immOf m b1 b2)
  | .immX mk => mk (immOf x b1 b2)
  | .banks mk => mk b1 b2

/-- The instruction of an opcode byte and the three bytes that follow it. -/
def decodeBytes (m x : Bool) (op b1 b2 b3 : Byte) : Instr := (opEntry op).build m x b1 b2 b3

/-- Decodes the first instruction of a byte list under the width flags m and x, and answers the bytes after it. -/
def decode (m x : Bool) : List Byte → Except DecodeError (Instr × List Byte)
  | [] => .error .noBytes
  | op :: rest =>
    let n := (opEntry op).operandBytes m x
    if rest.length < n then .error (.truncated op)
    else .ok (decodeBytes m x op (rest.getD 0 0) (rest.getD 1 0) (rest.getD 2 0), rest.drop n)

/-- The operand bytes of an operand, first fetched first (R114, R84). -/
def Payload.bytes : Payload → List Byte
  | .none => []
  | .byte v => [v]
  | .word v => [loByte v, hiByte v]
  | .long v => [loByte (offsetOf v), hiByte (offsetOf v), bankOf v]
  | .banks dst src => [dst, src]

/-- The bytes of an instruction under the width flags m and x: the opcode byte, then as many bytes of the operand as the
tag takes (R113, R114). -/
def encode (m x : Bool) (i : Instr) : List Byte :=
  i.opcode :: i.payload.bytes.take (i.tag.operandBytes m x)

/-- Byte k of a number, byte 0 the least significant. -/
def byteAt (w k : Nat) : Byte := BitVec.ofNat 8 (w / 256 ^ k)

/-- The four bytes an instruction word of nbits bits occupies, lowest address first; the bits above nbits are 0. -/
def tableWordBytes (nbits w : Nat) : List Byte :=
  let v := w % 2 ^ nbits
  [byteAt v 0, byteAt v 1, byteAt v 2, byteAt v 3]

/-- The instruction the decoder reads from a word of the opcode table, at the widths of the reset state (m = x = 0,
R482). -/
def decodeTableWord (nbits w : Nat) : Option Instr :=
  match decode false false (tableWordBytes nbits w) with
  | .ok (i, _) => some i
  | .error _ => none

end Sys2Proof
end

