-- ==== Sys2Proof/Machine/Loop.lean ====
section
/-! DEFINITION. The parts of the execution loop around an instruction (spec 60_exceptions R431-R438): fetching and decoding,
charging the cost, the poll, the end of a step. -/

namespace Sys2Proof.Config

/-- The free value for `P_COST` (R6, R435, R437, D20; log entry 3): any function of the opcode and the state before the step. The
cost is one more, so that it is positive. -/
opaque freeCost : Byte → Machine.State → Nat

end Sys2Proof.Config

namespace Sys2Proof.Machine

/-- `P_COST(op, S)`, a positive integer (R435). A zero or missing table entry counts as 1. -/
def State.cost (s : State) (op : Byte) : Nat :=
  match s.params.timing with
  | .budget (.table costs) _ => max 1 (costs.getD op.toNat 1)
  | .budget .free _ => Config.freeCost op s + 1
  | .draw => Config.freeCost op s + 1

/-- `cyc` after `cyc <- cyc - P_COST(op, S)` (R431), S the state before the step; where timing is not fixed, a free value (R437). -/
def State.cycAfter (s : State) (op : Byte) : Int :=
  match s.params.timing with
  | .draw => Config.cycDraw (s.draws + 1)
  | .budget _ _ => s.cyc - (s.cost op : Int)

/-- The count of draws after a Running step's own. -/
def State.drawsAfter (s : State) : Nat :=
  match s.params.timing with
  | .draw => s.draws + 1
  | .budget _ _ => s.draws

/-- The charge of a Running step (R431, R437). -/
def State.charge (s : State) (op : Byte) : State := { s with cyc := s.cycAfter op, draws := s.drawsAfter }

/-- The address k places after PC in bank PBR (R112). -/
def State.codeAddr (s : State) (k : Nat) : Addr := addrOf s.pbr (s.pc + BitVec.ofNat 16 k)

/-- The state after the first n bytes at PC are fetched, each by a read of its own (R12, R112). -/
def State.fetched (s : State) (n : Nat) : State := s.noteReads ((List.range n).map s.codeAddr)

/-- The byte that the fetch of the k-th byte after PC answers, the bytes before it fetched already (R12, R112). -/
def State.codeByte (s : State) (k : Nat) : Byte := (s.fetched k).load (s.codeAddr k)

/-- How many bytes a step fetches for an instruction: its length, but for WDM under `P_WDM = fault` the opcode only (R112, R392). -/
def State.fetchLength (s : State) (i : Instr) : Nat :=
  if i.opcode = 0x42 ∧ s.params.wdm = .fault then 1 else i.length s.p.m s.p.x

/-- What the opcode byte and the three bytes after it would be if all were fetched, as many as the longest instruction has
(R111, R112). Those past the instruction are not fetched and have no effect (`decodeBytes`; log entry 10). -/
def State.codeBytes (s : State) : List Byte := [s.codeByte 0, s.codeByte 1, s.codeByte 2, s.codeByte 3]

/-- The instruction at PBR:PC, decoded under the current m and x (R122, R432). -/
def State.fetch (s : State) : Instr :=
  decodeBytes s.p.m s.p.x (s.codeByte 0) (s.codeByte 1) (s.codeByte 2) (s.codeByte 3)

/-- `Poll()` (R436): exit, then NMI, then IRQ, then the wake of a halted core whose IRQ is masked (R438). -/
def State.poll (s : State) : State :=
  if s.exitRequest then { s with run := .terminated }
  else if s.nmiPending then { s with nmiPending := false, run := .running }.enter .nmi
  else if s.irqLine && !s.p.i then { s with run := .running }.enter .irq
  else if s.run = .halted ∧ s.irqLine = true then { s with run := .running }
  else s

/-- Some input that a poll reads is raised. With none a poll does nothing (`poll_of_not_requested`). -/
def State.requested (s : State) : Bool := s.exitRequest || s.nmiPending || s.irqLine

/-- A Running step ends with a poll (R431): `cyc` is zero or below, or where timing is not fixed the draw says so (R437). -/
def State.pollDue (s : State) : Bool :=
  match s.params.timing with
  | .draw => Config.pollDraw s.draws
  | .budget _ _ => decide (s.cyc ≤ 0)

/-- `cyc` after the end of a step (R431): replenished when it is zero or below. Where timing is not fixed nothing reads it
(R437). -/
def State.replenish (s : State) : State :=
  { s with cyc :=
      match s.params.timing with
      | .draw => s.cyc
      | .budget _ _ => if s.cyc ≤ 0 then s.cyc + pollPeriod s.params else s.cyc }

/-- The end of a Running step (R431): no poll after a fault; else, when a poll is due, replenish and poll. It asks for the inputs
before it asks whether a poll is due, so that a run without requests can be evaluated whatever the timing is; `endOfStep_eq` has
R431's form. -/
def State.endOfStep (s : State) : State :=
  match s.run with
  | .faulted _ _ _ _ => s
  | _ => if s.requested && s.pollDue then s.replenish.poll else s.replenish

/-- The state with a word of the opcode table in plain RAM at PBR:PC and the core Running, so that the next step fetches it. -/
def State.placeWord (s : State) (nbits w : Nat) : State :=
  let put := fun (m : Memory) (k : Nat) => m.write (s.codeAddr k).toNat ((tableWordBytes nbits w).getD k 0)
  { s with mem := put (put (put (put s.mem 0) 1) 2) 3, run := .running,
           params := { s.params with memory := .ram } }

end Sys2Proof.Machine
end

