-- ==== Sys2Proof/Machine/Step.lean ====
section
/-! DEFINITION. One step of the core by run state (spec 60_exceptions R431). -/

namespace Sys2Proof.Machine

/-- A Running step: the instruction at PBR:PC is fetched, charged and executed, then the step ends, perhaps with a poll (R431). -/
def stepRunning (s : State) : Host.Outcome State Fault Refusal :=
  match exec s.fetch ((s.charge s.fetch.opcode).fetched (s.fetchLength s.fetch)) with
  | .next t => .next t.endOfStep
  | .fault r => .fault r
  | .refused r => .refused r

/-- `Step()` (R431). In Terminated and Faulted there is no step. -/
def step (s : State) : Host.Outcome State Fault Refusal :=
  match s.run with
  | .terminated => .fault .terminated
  | .faulted kind bank offset opcode => .fault (.faulted kind bank offset opcode)
  | .halted => .next s.poll
  | .running => stepRunning s

/-- `s` with a word of the opcode table stored where the next step fetches, and Running (log entry 12). -/
def State.withFetchWord (s : State) (nbits w : Nat) : State := s.placeWord nbits w

end Sys2Proof.Machine
end

