-- ==== Sys2Proof/Safety.lean ====
section
/-! DEFINITION. What claims about the machine are stated in: the invariants of the spec (10_state R49, R50), the canonical form
of memory, a safe run, a list of accesses performed, and an instruction's operand by its tag and payload (30_encoding R113, R114). -/

namespace Sys2Proof

open Sys2Proof.Machine

/-- R49: in emulation mode m and x are set, SP's high byte is 0x01 and the high bytes of X and Y are zero. -/
def Machine.State.emulationOk (s : State) : Bool :=
  !s.p.e || (s.p.m && s.p.x && hiByte s.sp == 0x01 && hiByte s.x == 0 && hiByte s.y == 0)

/-- R50: x set means that the high bytes of X and Y are zero. -/
def Machine.State.indexOk (s : State) : Bool := !s.p.x || (hiByte s.x == 0 && hiByte s.y == 0)

/-- The invariant every step keeps: R49, R50 and the canonical form of memory. -/
def Machine.State.inv (s : State) : Bool := s.emulationOk && s.indexOk && s.mem.wf

/-- A state that is not the refutation of a run's claims (R446): not Faulted. -/
def Machine.State.safe (s : State) : Bool :=
  match s.run with
  | .faulted _ _ _ _ => false
  | _ => true

/-- The cells of plain RAM after an access: a write changes its own (R81). -/
def Claims.cellsAfter (m : Memory) : BusEvent → Memory
  | .write a v => m.write a.toNat v
  | .read _ => m
  | .outside _ => m

/-- The state after these accesses, oldest first (R81, R96): plain RAM takes the writes, a collaborator has them all in its
history. -/
def Claims.performed (s : State) (events : List BusEvent) : State :=
  match s.params.memory with
  | .ram => { s with mem := events.foldl Claims.cellsAfter s.mem }
  | .bus => { s with bus := events.reverse ++ s.bus }

/-- The memory operand a tag and a payload name, if the tag is a memory mode. -/
def memOperandOf : Tag → Payload → Option MemOperand
  | .dp, .byte ll => some (.dp ll)
  | .dpX, .byte ll => some (.dpX ll)
  | .dpY, .byte ll => some (.dpY ll)
  | .dpInd, .byte ll => some (.dpInd ll)
  | .dpIndL, .byte ll => some (.dpIndL ll)
  | .dpXInd, .byte ll => some (.dpXInd ll)
  | .dpIndY, .byte ll => some (.dpIndY ll)
  | .dpIndLY, .byte ll => some (.dpIndLY ll)
  | .abs, .word hhll => some (.abs hhll)
  | .absX, .word hhll => some (.absX hhll)
  | .absY, .word hhll => some (.absY hhll)
  | .long, .long addr => some (.long addr)
  | .longX, .long addr => some (.longX addr)
  | .sr, .byte ll => some (.sr ll)
  | .srIndY, .byte ll => some (.srIndY ll)
  | _, _ => none

/-- The memory operand of an instruction. -/
def Instr.memOperand (i : Instr) : Option MemOperand := memOperandOf i.tag i.payload

/-- The source operand of an instruction: an immediate or a memory operand. -/
def Instr.sourceOperand (i : Instr) : Option Operand :=
  match i.tag, i.payload with
  | .immM, .word v => some (.imm v)
  | .immX, .word v => some (.imm v)
  | t, q => (memOperandOf t q).map .mem

end Sys2Proof
end

