-- ==== Sys2Proof/Certificates/Slice0/Obligations.lean ====
section
/-! DEFINITION. The statements for the provers, and the words they are written in: widths, register halves, flags, stack slots,
pushed bytes and trap frames, each as the spec gives it and apart from the operations of the machine. -/

namespace Sys2Proof.Claims

open Sys2Proof.Machine

/-- The bits of a width flag: 1 means 8 bits (R9). -/
def bitsOf (narrow : Bool) : Nat := if narrow then 8 else 16

/-- A register's value at a width (R9). -/
def atWidth (narrow : Bool) (v : Word) : Nat := v.toNat % 2 ^ bitsOf narrow

/-- A register after a write at a width: at 8 bits the high byte stays (R10). -/
def putAt (narrow : Bool) (old v : Word) : Word := if narrow then wordOf (hiByte old) (loByte v) else v

/-- The flags with n the top bit and z the zero test of a result at a width (R10, R41). -/
def nzOf (p : Flags) (narrow : Bool) (result : Nat) : Flags :=
  { p with n := decide (2 ^ (bitsOf narrow - 1) ≤ result), z := decide (result = 0) }

/-- The signed reading of a value of so many bits. -/
def signedOf (bits v : Nat) : Int := if v < 2 ^ (bits - 1) then v else (v : Int) - 2 ^ bits

/-- A signed value outside the range of so many bits (R242, R244: overflow). -/
def outOfRange (bits : Nat) (r : Int) : Bool := decide (r < -2 ^ (bits - 1) ∨ 2 ^ (bits - 1) ≤ r)

/-- PC after the instruction's bytes, in its bank (R38). -/
def pcAfter (i : Instr) (s : State) : Word := s.pc + BitVec.ofNat 16 (i.length s.p.m s.p.x)

/-- The byte a read gives after these accesses (R81, R97). -/
def byteAfter (s : State) (before : List BusEvent) (a : Addr) : Byte := (performed s before).load a

/-- The first n reads of a run of places. -/
def readsOf (place : Nat → Addr) (n : Nat) : List BusEvent := (List.range n).map fun k => .read (place k)

/-- The byte the k-th read of a run of places gives, after these accesses and the reads before it (R85, R96). -/
def byteOf (s : State) (before : List BusEvent) (place : Nat → Addr) (k : Nat) : Byte :=
  byteAfter s (before ++ readsOf place k) (place k)

/-- The value of one or two bytes read low byte first (R84, R85). -/
def valueOf (s : State) (narrow : Bool) (before : List BusEvent) (place : Nat → Addr) : Word :=
  if narrow then zextByte (byteOf s before place 0) else wordOf (byteOf s before place 1) (byteOf s before place 0)

/-- How many bytes a width has. -/
def bytesOf (narrow : Bool) : Nat := if narrow then 1 else 2

/-- The places from an offset on in a bank, the offset wrapping in it. -/
def inBank (bank : Byte) (offset k : Nat) : Addr := BitVec.ofNat 24 (bank.toNat * 65536 + (offset + k) % 65536)

/-- The first and second byte of an operand (R141). -/
def operandPlace (ea : Ea) (k : Nat) : Addr := if k = 0 then ea.lo else ea.hi

/-- The reads that resolve a memory operand (O9, O10). -/
def pointerEvents (op : Byte) (s : State) (o : MemOperand) : List BusEvent :=
  (o.pointerReads op s).map BusEvent.read

/-- The reads that give an operand's value: the pointer's, then the operand's own; none for an immediate (R96, R143). -/
def operandEvents (narrow : Bool) (op : Byte) (s : State) : Operand → List BusEvent
  | .imm _ => []
  | .mem o => pointerEvents op s o ++ readsOf (operandPlace (o.ea op s)) (bytesOf narrow)

/-- An operand's value at a width (R14, R143): an immediate mod 2^w, or the byte at ea0 and at 16 bits the byte at ea1 above it. -/
def operandValue (narrow : Bool) (op : Byte) (s : State) : Operand → Word
  | .imm v => BitVec.ofNat 16 (atWidth narrow v)
  | .mem o => valueOf s narrow (pointerEvents op s o) (operandPlace (o.ea op s))

/-- The writes that store a value at an operand: low byte first (R85). -/
def operandWrites (narrow : Bool) (ea : Ea) (v : Word) : List BusEvent :=
  if narrow then [.write ea.lo (loByte v)] else [.write ea.lo (loByte v), .write ea.hi (hiByte v)]

/-- `t` holds `v` at the operand's addresses, at the width, and every other byte of memory as `s` does (R85). -/
def StoresAt (s t : State) (narrow : Bool) (ea : Ea) (v : Word) : Prop :=
  t.load ea.lo = loByte v ∧ (narrow = false → t.load ea.hi = hiByte v) ∧
    ∀ q : Addr, q ≠ ea.lo → (narrow = false → q ≠ ea.hi) → t.load q = s.load q

/-- The instruction has a memory operand and answers the next state in which `f` of the old operand gave the value stored at the
operand's address and the new flags and PC is past the instruction. Its accesses are those that resolve the operand, those that
read it if `reads`, and the store, in this order. With plain RAM every byte outside the operand is as before. -/
def WritesOperand (i : Instr) (s : State) (narrow reads : Bool) (f : Word → Word × Flags) : Prop :=
  ∃ o : MemOperand, i.memOperand = some o ∧
    let ea := o.ea i.opcode s
    let r := f (operandValue narrow i.opcode s (.mem o))
    let before := if reads then operandEvents narrow i.opcode s (.mem o) else pointerEvents i.opcode s o
    let t := performed { s with p := r.2, pc := pcAfter i s } (before ++ operandWrites narrow ea r.1)
    exec i s = .next t ∧ (s.params.memory = .ram → StoresAt s t narrow ea r.1)

/-- The instruction has a source operand, and with its value the next state is `f` of it, the operand's reads made. -/
def ReadsOperand (i : Instr) (s : State) (narrow : Bool) (f : Word → State) : Prop :=
  ∃ o : Operand, i.sourceOperand = some o ∧
    exec i s = .next (performed (f (operandValue narrow i.opcode s o)) (operandEvents narrow i.opcode s o))

/-- Where byte k of a run of pushes goes: at SP, then below it; in emulation mode within page 1 (R91, R93). -/
def pushSp (e : Bool) (sp : Word) (k : Nat) : Word :=
  if k = 0 then sp else if e then wordOf 0x01 (loByte sp - BitVec.ofNat 8 k) else sp - BitVec.ofNat 16 k

/-- SP after k pulls, k at least 1, and where the k-th pull reads (R93). -/
def pullSp (e : Bool) (sp : Word) (k : Nat) : Word :=
  if e then wordOf 0x01 (loByte sp + BitVec.ofNat 8 k) else sp + BitVec.ofNat 16 k

/-- Where a run of pulls reads, the first at k = 0. -/
def pullPlace (s : State) (k : Nat) : Addr := addrOf 0 (pullSp s.p.e s.sp (k + 1))

/-- The byte the k-th pull reads, k at least 1. -/
def pulled (s : State) (k : Nat) : Byte := byteOf s [] (pullPlace s) (k - 1)

/-- The value a pull at a width reads (R94, R352). -/
def pulledAt (s : State) (narrow : Bool) : Word := valueOf s narrow [] (pullPlace s)

/-- The bytes a push at a width pushes, in order (R92, R342). -/
def pushBytes (narrow : Bool) (v : Word) : List Byte := if narrow then [loByte v] else [hiByte v, loByte v]

/-- The writes that push these bytes in order (R91, R92). -/
def pushWrites (s : State) (bytes : List Byte) : List BusEvent :=
  (List.range bytes.length).map fun k => .write (addrOf 0 (pushSp s.p.e s.sp k)) (bytes.getD k 0)

/-- `t` is reached from `s` by pushing these bytes in order: each is in its slot, SP is below the last, and every other byte of
memory is as before (R91, R92). -/
def Pushed (s t : State) (bytes : List Byte) : Prop :=
  t.sp = pushSp s.p.e s.sp bytes.length ∧
    (∀ k : Nat, k < bytes.length → t.load (addrOf 0 (pushSp s.p.e s.sp k)) = bytes.getD k 0) ∧
    ∀ q : Addr, (∀ k : Nat, k < bytes.length → q ≠ addrOf 0 (pushSp s.p.e s.sp k)) → t.load q = s.load q

/-- The instruction answers a state that pushed these bytes, after these reads, and is otherwise `target`. -/
def PushesTo (i : Instr) (s : State) (before : List BusEvent) (bytes : List Byte) (target : State) : Prop :=
  let t := performed { target with sp := pushSp s.p.e s.sp bytes.length } (before ++ pushWrites s bytes)
  exec i s = .next t ∧ (s.params.memory = .ram → Pushed s t bytes)

/-- The packed status byte as a sum of its bits (R45). -/
def statusByte (p : Flags) (bit4 : Bool) : Byte :=
  BitVec.ofNat 8 (128 * p.n.toNat + 64 * p.v.toNat + 32 * (p.e || p.m).toNat +
    16 * (if p.e then bit4 else p.x).toNat + 8 * p.d.toNat + 4 * p.i.toNat + 2 * p.z.toNat + p.c.toNat)

/-- Bit j of a byte. -/
def bitOf (k : Byte) (j : Nat) : Bool := decide (k.toNat / 2 ^ j % 2 = 1)

/-- The flags a pulled status byte gives (R46): m and x in native mode only, e and b never. -/
def flagsOfByte (p : Flags) (k : Byte) : Flags :=
  { p with n := bitOf k 7, v := bitOf k 6, m := if p.e then p.m else bitOf k 5,
           x := if p.e then p.x else bitOf k 4, d := bitOf k 3, i := bitOf k 2, z := bitOf k 1, c := bitOf k 0 }

/-- The side effects of R47: e forces m and x, a set x clears the index high bytes, e pins SP's high byte. -/
def settled (s : State) : State :=
  { s with p := { s.p with m := s.p.e || s.p.m, x := s.p.e || s.p.x },
           x := if s.p.e || s.p.x then zextByte (loByte s.x) else s.x,
           y := if s.p.e || s.p.x then zextByte (loByte s.y) else s.y,
           sp := if s.p.e then wordOf 0x01 (loByte s.sp) else s.sp }

/-- The vector table of R443. -/
def vectorOf (v : Vectors) : TrapKind → Bool → Nat
  | .cop, false => 0xFFE4
  | .brk, false => 0xFFE6
  | .nmi, false => v.nmiNative.toNat
  | .irq, false => v.irqNative.toNat
  | .cop, true => v.copEmulation.toNat
  | .brk, true => v.brkEmulation.toNat
  | .nmi, true => v.nmiEmulation.toNat
  | .irq, true => v.irqEmulation.toNat

/-- The break flag after an entry (R48): in emulation mode 1 for BRK and COP and 0 for IRQ and NMI; in native mode as before. -/
def breakAfter (p : Flags) (kind : TrapKind) : Bool :=
  if p.e then decide (kind = .brk ∨ kind = .cop) else p.b

/-- `t` is reached from `s` by `Enter(kind)` (R440): the frame is pushed, then the vector is read. -/
def Enters (s t : State) (kind : TrapKind) : Prop :=
  let b := breakAfter s.p kind
  let bytes := (if s.p.e then [] else [s.pbr]) ++ [hiByte s.pc, loByte s.pc, statusByte s.p b]
  let pushes := pushWrites s bytes
  let vec := inBank 0 (vectorOf s.params.vectors kind s.p.e)
  t = performed
      { s with p := { s.p with b := b, i := true, d := false }, sp := pushSp s.p.e s.sp bytes.length, pbr := 0,
               pc := valueOf s false pushes vec }
      (pushes ++ readsOf vec 2) ∧
    (s.params.memory = .ram → Pushed s t bytes)

/-- The target of a Relative8 branch in the source's own form (R162): `PC+2+d` if `d <= 0x7F`, else `PC-254+d`. -/
def branchTarget (i0 : Word) (d : Byte) : Word :=
  if d.toNat ≤ 0x7F then i0 + 2 + BitVec.ofNat 16 d.toNat else i0 - 254 + BitVec.ofNat 16 d.toNat

/-- The result and carry of the read-modify-write instructions on a value of so many bits (R257, R258, R263-R266). -/
def rmwResult (mn : Mnemonic) (bits v : Nat) (c : Bool) : Nat × Bool :=
  match mn with
  | .inc => ((v + 1) % 2 ^ bits, c)
  | .dec => ((v + 2 ^ bits - 1) % 2 ^ bits, c)
  | .asl => (2 * v % 2 ^ bits, decide (2 ^ (bits - 1) ≤ v))
  | .lsr => (v / 2, decide (v % 2 = 1))
  | .rol => ((2 * v + c.toNat) % 2 ^ bits, decide (2 ^ (bits - 1) ≤ v))
  | .ror => (v / 2 + c.toNat * 2 ^ (bits - 1), decide (v % 2 = 1))
  | _ => (v, c)

/-- The flags after a read-modify-write instruction. -/
def rmwFlags (p : Flags) (r : Nat × Bool) : Flags := { nzOf p p.m r.1 with c := r.2 }

/-- The six read-modify-write mnemonics with an accumulator form. -/
def rmwMnemonics : List Mnemonic := [.inc, .dec, .asl, .lsr, .rol, .ror]

/-- The flags after a comparison of two values of so many bits (R248). -/
def compareFlags (p : Flags) (bits a b : Nat) : Flags :=
  { p with c := decide (b ≤ a), z := decide (a = b),
           n := decide (2 ^ (bits - 1) ≤ (a + 2 ^ bits - b) % 2 ^ bits) }

/-- Every one of k nibbles is a decimal digit. -/
def isBcd : Nat → Nat → Bool
  | 0, _ => true
  | k + 1, v => decide (v % 16 < 10) && isBcd k (v / 16)

/-- The decimal number k nibbles spell. -/
def bcdValue : Nat → Nat → Nat
  | 0, _ => 0
  | k + 1, v => v % 16 + 10 * bcdValue k (v / 16)

/-- The carry into nibble k of a decimal addition of any nibbles (R243). -/
def addCarry (a b c : Nat) : Nat → Nat
  | 0 => c
  | k + 1 => if 10 ≤ a / 16 ^ k % 16 + b / 16 ^ k % 16 + addCarry a b c k then 1 else 0

/-- Nibble k of a decimal addition of any nibbles (R243). -/
def addNibble (a b c k : Nat) : Nat :=
  let sum := a / 16 ^ k % 16 + b / 16 ^ k % 16 + addCarry a b c k
  if 10 ≤ sum then (sum - 10) % 16 else sum

/-- The borrow into nibble k of a decimal subtraction of any nibbles (R245). -/
def subBorrow (a b borrow : Nat) : Nat → Nat
  | 0 => borrow
  | k + 1 => if a / 16 ^ k % 16 < b / 16 ^ k % 16 + subBorrow a b borrow k then 1 else 0

/-- Nibble k of a decimal subtraction of any nibbles (R245). -/
def subNibble (a b borrow k : Nat) : Int :=
  let diff : Int := (a / 16 ^ k % 16 : Nat) - (b / 16 ^ k % 16 : Nat) - (subBorrow a b borrow k : Nat)
  if diff < 0 then (diff + 10) % 16 else diff

/-- The instruction executed n times, each time from the state the last left. -/
def execTimes (i : Instr) : Nat → State → Option State
  | 0, s => some s
  | n + 1, s =>
    match exec i s with
    | .next t => execTimes i n t
    | _ => none

/-- X or Y at its width after n iterations of a block move (R422, R423). -/
def indexAfter (narrow : Bool) (v : Word) (delta : Int) (n : Nat) : Word :=
  BitVec.ofNat 16 (((atWidth narrow v : Int) + delta * n) % 2 ^ bitsOf narrow).toNat

/-- The source of iteration k, the first at k = 0 (R166). -/
def blockSource (s : State) (src : Byte) (delta : Int) (k : Nat) : Addr :=
  addrOf src (indexAfter s.p.x (if s.params.blockRoles = .architecture then s.x else s.y) delta k)

/-- The destination of iteration k (R166). -/
def blockDest (s : State) (dst : Byte) (delta : Int) (k : Nat) : Addr :=
  addrOf dst (indexAfter s.p.x (if s.params.blockRoles = .architecture then s.y else s.x) delta k)

/-- Plain RAM after n bytes were copied one after the other, each read before it is written (R422, R423). -/
def copied (s : State) (source dest : Nat → Addr) : Nat → Addr → Byte
  | 0, q => s.load q
  | n + 1, q => if q = dest n then copied s source dest n (source n) else copied s source dest n q

/-- One block-move iteration with this step of X and Y (R421-R423). -/
def MovesOneByte (i : Instr) (dst src : Byte) (delta : Int) (s : State) : Prop :=
  let source := blockSource s src delta 0
  let dest := blockDest s dst delta 0
  let t := performed
    { s with a := s.a - 1, x := putAt s.p.x s.x (indexAfter s.p.x s.x delta 1),
             y := putAt s.p.x s.y (indexAfter s.p.x s.y delta 1), dbr := dst,
             pc := if s.a = 0 then s.pc + 3 else s.pc }
    [.read source, .write dest (byteAfter s [] source)]
  exec i s = .next t ∧
    (s.params.memory = .ram → t.load dest = s.load source ∧ ∀ q : Addr, q ≠ dest → t.load q = s.load q)

/-- Where the bytes of the instruction at PBR:PC stand (R12, R112). -/
def codePlace (s : State) : Nat → Addr := inBank s.pbr s.pc.toNat

/-- How memory came from `s` to `t`: plain RAM keeps no history, and a collaborator has seen events of this kind only, its image
as before (R81, R88). -/
def Accesses (s t : State) (allowed : BusEvent → Prop) : Prop :=
  (s.params.memory = .ram → t.bus = s.bus) ∧
    (s.params.memory = .bus → t.mem = s.mem ∧ ∃ l : List BusEvent, (∀ e ∈ l, allowed e) ∧ t.bus = l ++ s.bus)

end Sys2Proof.Claims

open Sys2Proof Sys2Proof.Machine Sys2Proof.Claims

/-- Decoding the encoding of any well-formed instruction gives it back and leaves the bytes after it (R113, R114, R116, R122, R123). -/
def Obligations.DecodeOfEncodeIsIdentity : Prop :=
  ∀ (m x : Bool) (i : Instr) (rest : List Byte), i.wellFormed m x = true →
    decode m x (encode m x i ++ rest) = .ok (i, rest)

/-- What the decoder reads is well-formed, and its encoding followed by the rest is the byte list read (R111, R113, R114, R118). -/
def Obligations.EncodeOfDecodeIsIdentity : Prop :=
  ∀ (m x : Bool) (bytes : List Byte) (i : Instr) (rest : List Byte),
    decode m x bytes = .ok (i, rest) → i.wellFormed m x = true ∧ encode m x i ++ rest = bytes

/-- Byte sequences written out from the spec decode to the instructions they stand for, one or more per family (R114, R116, R192, R193, R313, R315, R422). -/
def Obligations.SampleEncodingsDecode : Prop :=
  decode true true [0xA9, 0x05] = .ok (.ldaImm 0x0005, []) ∧
  decode false false [0xA2, 0x34, 0x12] = .ok (.ldxImm 0x1234, []) ∧
  decode false false [0x8D, 0x00, 0x20] = .ok (.staAbs 0x2000, []) ∧
  decode false false [0xFC, 0x00, 0x90] = .ok (.jsrAbsXInd 0x9000, []) ∧
  decode false false [0x5C, 0x00, 0x80, 0xC0] = .ok (.jmlLong 0xC08000, []) ∧
  decode false false [0x22, 0x00, 0x90, 0x01] = .ok (.jsl 0x019000, []) ∧
  decode false false [0x62, 0x00, 0xF0] = .ok (.per 0xF000, []) ∧
  decode false false [0xD4, 0x20] = .ok (.pei 0x20, []) ∧
  decode false false [0xC2, 0x30, 0xEA] = .ok (.rep 0x30, [0xEA]) ∧
  decode false false [0x54, 0x7E, 0x7F] = .ok (.mvn 0x7E 0x7F, []) ∧
  decode false false [0x4A] = .ok (.lsrAcc, []) ∧
  decode false false [0xAA] = .ok (.tax, []) ∧
  decode false false [0x82, 0xFD, 0xFF] = .ok (.brl 0xFFFD, [])

/-- Every opcode byte decodes; it alone selects mnemonic and tag, and only the twelve immediates change length with m, x (R111, R115, R118, R122, R123). -/
def Obligations.OpcodeByteAloneSelectsInstruction : Prop :=
  (∀ (m x : Bool) (op b1 b2 b3 : Byte), ∃ (i : Instr),
    decode m x [op, b1, b2, b3] = .ok (i, [op, b1, b2, b3].drop (i.length m x)) ∧ i.opcode = op ∧
      1 ≤ i.length m x ∧ i.length m x ≤ 4) ∧
  (∀ (i j : Instr), i.opcode = j.opcode → i.mnemonic = j.mnemonic ∧ i.tag = j.tag) ∧
  ∀ (i : Instr), (∃ m x m' x' : Bool, i.length m x ≠ i.length m' x') ↔
    i.opcode ∈ ([0x09, 0x29, 0x49, 0x69, 0x89, 0xA9, 0xC9, 0xE9, 0xA0, 0xA2, 0xC0, 0xE0] : List Byte)

/-- The eight accumulator operations sit at opcode[7:5] = 0..7 with their mode in opcode[4:0]; 0x89 is the one exception (R115). -/
def Obligations.AccumulatorOpcodeRegularity : Prop :=
  let modes : List (Nat × Tag) :=
    [(0x01, .dpXInd), (0x03, .sr), (0x05, .dp), (0x07, .dpIndL), (0x09, .immM), (0x0D, .abs), (0x0F, .long),
     (0x11, .dpIndY), (0x12, .dpInd), (0x13, .srIndY), (0x15, .dpX), (0x17, .dpIndLY), (0x19, .absY),
     (0x1D, .absX), (0x1F, .longX)]
  let ops : List Mnemonic := [.ora, .and, .eor, .adc, .sta, .lda, .cmp, .sbc]
  ∀ (i : Instr),
    (∀ (k : Nat) (t : Tag), (k, t) ∈ modes → i.opcode.toNat % 32 = k → i.opcode ≠ 0x89 →
      ops[i.opcode.toNat / 32]? = some i.mnemonic ∧ i.tag = t) ∧
    (i.opcode = 0x89 → i.mnemonic = .bit ∧ i.tag = .immM) ∧
    (i.mnemonic ∈ ops → (i.opcode.toNat % 32, i.tag) ∈ modes ∧ i.opcode ≠ 0x89)

/-- An operand's value: an immediate mod 2^w, or the bytes at ea0 and ea1; a write of it reads back and leaves all else (R14, R81, R84, R85, R96, R97, R143, R167).
The order of the byte accesses is the spec's own decision (D28, D37; log entry 7), and what a collaborator answers is free (log entry 8). -/
def Obligations.OperandWriteReadsBack : Prop :=
  ∀ (s : State) (narrow : Bool) (o : MemOperand) (op : Byte) (v : Word) (q : Addr),
    s.load q = (match s.params.memory with | .ram => s.mem.read q.toNat | .bus => Config.busByte s.mem s.bus q) ∧
    let w := Width.ofFlag narrow
    let ea := o.ea op s
    let t := s.writeAt w ea v
    t = performed s (operandWrites narrow ea v) ∧
    (s.params.memory = .ram → (t.readAt w ea).toNat = atWidth narrow v ∧ StoresAt s t narrow ea v) ∧
    ((Operand.imm v).read w op s).toNat = atWidth narrow v ∧ (Operand.imm v).afterRead w op s = s ∧
    (Operand.mem o).read w op s = operandValue narrow op s (.mem o) ∧
    (Operand.mem o).afterRead w op s = performed s (operandEvents narrow op s (.mem o))

/-- Two memories in canonical form that read the same everywhere are equal, and a write keeps the form and changes one byte (R81, R82). -/
def Obligations.CanonicalMemoryDeterminedByReads : Prop :=
  (∀ (m n : Memory), m.wf = true → n.wf = true → (∀ a : Nat, m.read a = n.read a) → m = n) ∧
  ∀ (m n : Memory) (a : Nat) (v : Byte), m.wf = true → n.wf = true → a < 2 ^ 24 →
    (n = m.write a v ↔ ∀ b : Nat, n.read b = if b = a then v else m.read b)

/-- DirectAddr: the emulation shortcut under DH with the index added mod 2^8, else D + LL + idx mod 2^16, bank 0 always (R142).
The third clause is the corner case that R142 marks as its own inference. -/
def Obligations.DirectAddressFunction : Prop :=
  ∀ (s : State) (op ll : Byte) (idx : Word),
    (s.directAddr op ll idx).toNat =
      (if s.params.dpExempt ≠ some op ∧ s.p.e = true ∧ (loByte s.d).toNat = 0 then
        (hiByte s.d).toNat * 256 + (ll.toNat + idx.toNat) % 256
      else (s.d.toNat + ll.toNat + idx.toNat) % 65536) ∧
    bankOf (s.directAddr op ll idx) = 0 ∧
    (ll.toNat + idx.toNat ≤ 0xFF → (s.directAddr op ll idx).toNat = (s.d.toNat + ll.toNat + idx.toNat) % 65536)

/-- The effective addresses of the eight direct modes, with pointer bytes wrapping in bank 0 and Y added mod 2^24 (R96, R144, R145, R146, R147, R148, R149, R150, R151, R170).
The order of the byte accesses is the spec's own decision (D28, D37; log entry 7), and what a collaborator answers is free (log entry 8). -/
def Obligations.DirectModeAddresses : Prop :=
  ∀ (s : State) (op ll : Byte),
    let ix := BitVec.ofNat 16 (atWidth s.p.x s.x)
    let iy := BitVec.ofNat 16 (atWidth s.p.x s.y)
    let p := inBank 0 (s.directAddr op ll 0).toNat
    let px := inBank 0 (s.directAddr op ll ix).toNat
    let byte := fun (place : Nat → Addr) (k : Nat) => (byteOf s [] place k).toNat
    let ptr := fun (place : Nat → Addr) => byte place 0 + 256 * byte place 1
    let ptrL := ptr p + 65536 * byte p 2
    ((MemOperand.dp ll).ea0 op s = s.directAddr op ll 0 ∧ (MemOperand.dp ll).pointerReads op s = []) ∧
    ((MemOperand.dpX ll).ea0 op s = s.directAddr op ll ix ∧ (MemOperand.dpX ll).pointerReads op s = []) ∧
    ((MemOperand.dpY ll).ea0 op s = s.directAddr op ll iy ∧ (MemOperand.dpY ll).pointerReads op s = []) ∧
    (((MemOperand.dpInd ll).ea0 op s).toNat = s.dbr.toNat * 65536 + ptr p ∧
      (MemOperand.dpInd ll).pointerReads op s = [p 0, p 1]) ∧
    (((MemOperand.dpIndL ll).ea0 op s).toNat = ptrL ∧ (MemOperand.dpIndL ll).pointerReads op s = [p 0, p 1, p 2]) ∧
    (((MemOperand.dpXInd ll).ea0 op s).toNat = s.dbr.toNat * 65536 + ptr px ∧
      (MemOperand.dpXInd ll).pointerReads op s = [px 0, px 1]) ∧
    (((MemOperand.dpIndY ll).ea0 op s).toNat = (s.dbr.toNat * 65536 + ptr p + iy.toNat) % 2 ^ 24 ∧
      (MemOperand.dpIndY ll).pointerReads op s = [p 0, p 1]) ∧
    (((MemOperand.dpIndLY ll).ea0 op s).toNat = (ptrL + iy.toNat) % 2 ^ 24 ∧
      (MemOperand.dpIndLY ll).pointerReads op s = [p 0, p 1, p 2])

/-- The effective addresses of the absolute, long and stack-relative modes (R96, R152, R153, R154, R155, R156, R160, R161, R170).
The order of the byte accesses is the spec's own decision (D28, D37; log entry 7), and what a collaborator answers is free (log entry 8). -/
def Obligations.AbsoluteAndStackAddresses : Prop :=
  ∀ (s : State) (op ll : Byte) (hhll : Word) (v : Addr),
    let ix := atWidth s.p.x s.x
    let iy := atWidth s.p.x s.y
    let sr := inBank 0 (ll.toNat + s.sp.toNat)
    ((MemOperand.abs hhll).ea0 op s).toNat = s.dbr.toNat * 65536 + hhll.toNat ∧
    ((MemOperand.absX hhll).ea0 op s).toNat = (s.dbr.toNat * 65536 + hhll.toNat + ix) % 2 ^ 24 ∧
    ((MemOperand.absY hhll).ea0 op s).toNat = (s.dbr.toNat * 65536 + hhll.toNat + iy) % 2 ^ 24 ∧
    ((MemOperand.long v).ea0 op s).toNat = v.toNat ∧
    ((MemOperand.longX v).ea0 op s).toNat = (v.toNat + ix) % 2 ^ 24 ∧
    (MemOperand.sr ll).ea0 op s = sr 0 ∧
    ((MemOperand.srIndY ll).ea0 op s).toNat =
      (s.dbr.toNat * 65536 + (byteOf s [] sr 0).toNat + 256 * (byteOf s [] sr 1).toNat + iy) % 2 ^ 24 ∧
    (∀ o ∈ [MemOperand.abs hhll, .absX hhll, .absY hhll, .long v, .longX v, .sr ll], o.pointerReads op s = []) ∧
    (MemOperand.srIndY ll).pointerReads op s = [sr 0, sr 1]

/-- The high byte of a 16-bit operand: in-bank next for direct and stack-relative modes, 24-bit next for every other (R141, R167). -/
def Obligations.SecondByteAddress : Prop :=
  ∀ (s : State) (op : Byte) (o : MemOperand),
    (o.ea op s).hi.toNat =
      match o with
      | .dp _ => ((o.ea op s).lo.toNat + 1) % 65536
      | .dpX _ => ((o.ea op s).lo.toNat + 1) % 65536
      | .dpY _ => ((o.ea op s).lo.toNat + 1) % 65536
      | .sr _ => ((o.ea op s).lo.toNat + 1) % 65536
      | _ => ((o.ea op s).lo.toNat + 1) % 2 ^ 24

/-- LDA, LDX, LDY in every mode: the register at its width and n, z take the operand; nothing else but PC changes (R192, R193, R194, R143, R10, R96).
The order of the byte accesses is the spec's own decision (D28, D37; log entry 7), and what a collaborator answers is free (log entry 8). -/
def Obligations.LoadsWriteRegisterAndNZ : Prop :=
  ∀ (i : Instr) (s : State),
    (i.mnemonic = .lda → ReadsOperand i s s.p.m fun v =>
      { s with a := putAt s.p.m s.a v, p := nzOf s.p s.p.m v.toNat, pc := pcAfter i s }) ∧
    (i.mnemonic = .ldx → ReadsOperand i s s.p.x fun v =>
      { s with x := putAt s.p.x s.x v, p := nzOf s.p s.p.x v.toNat, pc := pcAfter i s }) ∧
    (i.mnemonic = .ldy → ReadsOperand i s s.p.x fun v =>
      { s with y := putAt s.p.x s.y v, p := nzOf s.p s.p.x v.toNat, pc := pcAfter i s })

/-- STA, STX, STY, STZ in every mode store their register or zero at the effective address and change nothing else but PC (R195, R196, R197, R198, R85, R96).
The order of the byte accesses is the spec's own decision (D28, D37; log entry 7), and what a collaborator answers is free (log entry 8). -/
def Obligations.StoresWriteOnlyTheirOperand : Prop :=
  ∀ (i : Instr) (s : State),
    (i.mnemonic = .sta → WritesOperand i s s.p.m false fun _ => (s.a, s.p)) ∧
    (i.mnemonic = .stx → WritesOperand i s s.p.x false fun _ => (s.x, s.p)) ∧
    (i.mnemonic = .sty → WritesOperand i s s.p.x false fun _ => (s.y, s.p)) ∧
    (i.mnemonic = .stz → WritesOperand i s s.p.m false fun _ => (0, s.p))

/-- TAX TAY TXA TYA TXY TYX TSX copy at the destination's width, set n and z from it and leave all else (R199, R200, R201, R202, R203, R204, R205). -/
def Obligations.WidthTransfersCopyAndSetNZ : Prop :=
  [Instr.tax, .tay, .txa, .tya, .txy, .tyx, .tsx].map Instr.opcode =
    [0xAA, 0xA8, 0x8A, 0x98, 0x9B, 0xBB, 0xBA] ∧
  ∀ (s : State),
    exec .tax s = .next { s with x := putAt s.p.x s.x s.a, p := nzOf s.p s.p.x (atWidth s.p.x s.a), pc := s.pc + 1 } ∧
    exec .tay s = .next { s with y := putAt s.p.x s.y s.a, p := nzOf s.p s.p.x (atWidth s.p.x s.a), pc := s.pc + 1 } ∧
    exec .txa s = .next { s with a := putAt s.p.m s.a s.x, p := nzOf s.p s.p.m (atWidth s.p.m s.x), pc := s.pc + 1 } ∧
    exec .tya s = .next { s with a := putAt s.p.m s.a s.y, p := nzOf s.p s.p.m (atWidth s.p.m s.y), pc := s.pc + 1 } ∧
    exec .txy s = .next { s with y := putAt s.p.x s.y s.x, p := nzOf s.p s.p.x (atWidth s.p.x s.x), pc := s.pc + 1 } ∧
    exec .tyx s = .next { s with x := putAt s.p.x s.x s.y, p := nzOf s.p s.p.x (atWidth s.p.x s.y), pc := s.pc + 1 } ∧
    exec .tsx s = .next { s with x := putAt s.p.x s.x s.sp, p := nzOf s.p s.p.x (atWidth s.p.x s.sp), pc := s.pc + 1 }

/-- TXS, TCS (SP pinned in emulation mode, no flag), TSC, TCD, TDC (16 bits, n and z) and XBA (bytes of A exchanged) (R206, R207, R208, R209, R210, R211). -/
def Obligations.FullWidthTransfersAndXba : Prop :=
  [Instr.txs, .tcs, .tsc, .tcd, .tdc, .xba].map Instr.opcode = [0x9A, 0x1B, 0x3B, 0x5B, 0x7B, 0xEB] ∧
  ∀ (s : State),
    exec .txs s = .next { s with sp := if s.p.e then wordOf 0x01 (loByte s.x) else s.x, pc := s.pc + 1 } ∧
    exec .tcs s = .next { s with sp := if s.p.e then wordOf 0x01 (loByte s.a) else s.a, pc := s.pc + 1 } ∧
    exec .tsc s = .next { s with a := s.sp, p := nzOf s.p false s.sp.toNat, pc := s.pc + 1 } ∧
    exec .tcd s = .next { s with d := s.a, p := nzOf s.p false s.a.toNat, pc := s.pc + 1 } ∧
    exec .tdc s = .next { s with a := s.d, p := nzOf s.p false s.d.toNat, pc := s.pc + 1 } ∧
    exec .xba s = .next { s with a := wordOf (loByte s.a) (hiByte s.a),
                                 p := nzOf s.p true (hiByte s.a).toNat, pc := s.pc + 1 }

/-- ADC in every mode: binary or decimal sum into A, c the carry of that sum, v the signed overflow of the binary sum, n, z (R242, R243, R246, R96).
v from the binary sum in decimal mode (D13) and the rule run unchanged on digits above 9 (93 I9) are the spec's own decisions, log entry 7. The order of the byte accesses is the spec's own decision (D28, D37; log entry 7), and what a collaborator answers is free (log entry 8). -/
def Obligations.AdcResultAndFlags : Prop :=
  ∀ (i : Instr) (s : State), i.mnemonic = .adc →
    ReadsOperand i s s.p.m fun v =>
      let bits := bitsOf s.p.m
      let a := atWidth s.p.m s.a
      let sum := a + v.toNat + s.p.c.toNat
      let dec := decAdd (Width.ofFlag s.p.m) (BitVec.ofNat 16 a) v s.p.c
      let res := if s.p.d then dec.1.toNat else sum % 2 ^ bits
      { s with a := putAt s.p.m s.a (BitVec.ofNat 16 res),
               p := { nzOf s.p s.p.m res with
                      c := if s.p.d then dec.2 else decide (2 ^ bits ≤ sum),
                      v := outOfRange bits (signedOf bits a + signedOf bits v.toNat + s.p.c.toNat) },
               pc := pcAfter i s }

/-- SBC in every mode: binary or decimal difference into A, c meaning no borrow, v the signed overflow of the binary difference (R244, R245, R247, R96).
v from the binary difference in decimal mode (D13) and the rule run unchanged on digits above 9 (93 I9) are the spec's own decisions, log entry 7. The order of the byte accesses is the spec's own decision (D28, D37; log entry 7), and what a collaborator answers is free (log entry 8). -/
def Obligations.SbcResultAndFlags : Prop :=
  ∀ (i : Instr) (s : State), i.mnemonic = .sbc →
    ReadsOperand i s s.p.m fun v =>
      let bits := bitsOf s.p.m
      let a := atWidth s.p.m s.a
      let diff : Int := (a : Int) - v.toNat - (1 - s.p.c.toNat)
      let dec := decSub (Width.ofFlag s.p.m) (BitVec.ofNat 16 a) v s.p.c
      let res := if s.p.d then dec.1.toNat else (diff % 2 ^ bits).toNat
      { s with a := putAt s.p.m s.a (BitVec.ofNat 16 res),
               p := { nzOf s.p s.p.m res with
                      c := if s.p.d then dec.2 else decide (0 ≤ diff),
                      v := outOfRange bits (signedOf bits a - signedOf bits v.toNat - (1 - s.p.c.toNat)) },
               pc := pcAfter i s }

/-- The decimal adders nibble by nibble on any digits, and on valid digits as decimal arithmetic mod 10^(w/4) with carry (R243, R245).
That digits above 9 follow the rule unchanged is 93 I9, log entry 7. -/
def Obligations.DecimalAddersAreDecimalArithmetic : Prop :=
  ∀ (narrow : Bool) (a b : Word) (c : Bool),
    let k := bitsOf narrow / 4
    let w := Width.ofFlag narrow
    let va := bcdValue k a.toNat
    let vb := bcdValue k b.toNat
    let carry := addCarry a.toNat b.toNat c.toNat
    let borrow := subBorrow a.toNat b.toNat (1 - c.toNat)
    ((∀ j : Nat, (decAdd w a b c).1.toNat / 16 ^ j % 16 = if j < k then addNibble a.toNat b.toNat c.toNat j else 0) ∧
      (decAdd w a b c).2 = decide (carry k = 1) ∧
      (∀ j : Nat, (((decSub w a b c).1.toNat / 16 ^ j % 16 : Nat) : Int) =
        if j < k then subNibble a.toNat b.toNat (1 - c.toNat) j else 0) ∧
      (decSub w a b c).2 = decide (borrow k = 0)) ∧
    (isBcd k a.toNat = true → isBcd k b.toNat = true →
      isBcd k (decAdd w a b c).1.toNat = true ∧
      bcdValue k (decAdd w a b c).1.toNat = (va + vb + c.toNat) % 10 ^ k ∧
      (decAdd w a b c).2 = decide (10 ^ k ≤ va + vb + c.toNat) ∧
      isBcd k (decSub w a b c).1.toNat = true ∧
      (bcdValue k (decSub w a b c).1.toNat : Int) = ((va : Int) - vb - (1 - c.toNat)) % 10 ^ k ∧
      (decSub w a b c).2 = decide (vb + (1 - c.toNat) ≤ va))

/-- CMP, CPX, CPY in every mode: c unsigned order, z equality, n the top bit of the difference; nothing else but PC changes (R248, R249, R250, R96).
n as the top bit of the difference is the spec's own decision D12, log entry 7. The order of the byte accesses is the spec's own decision (D28, D37; log entry 7), and what a collaborator answers is free (log entry 8). -/
def Obligations.ComparesSetCarryZeroNegative : Prop :=
  ∀ (i : Instr) (s : State),
    (i.mnemonic = .cmp →
      i.opcode ∈ ([0xC1, 0xC3, 0xC5, 0xC7, 0xC9, 0xCD, 0xCF, 0xD1, 0xD2, 0xD3, 0xD5, 0xD7, 0xD9, 0xDD, 0xDF] : List Byte) ∧
      ReadsOperand i s s.p.m fun v =>
        { s with p := compareFlags s.p (bitsOf s.p.m) (atWidth s.p.m s.a) v.toNat, pc := pcAfter i s }) ∧
    (i.mnemonic = .cpx →
      i.opcode ∈ ([0xE0, 0xE4, 0xEC] : List Byte) ∧
      ReadsOperand i s s.p.x fun v =>
        { s with p := compareFlags s.p (bitsOf s.p.x) (atWidth s.p.x s.x) v.toNat, pc := pcAfter i s }) ∧
    (i.mnemonic = .cpy →
      i.opcode ∈ ([0xC0, 0xC4, 0xCC] : List Byte) ∧
      ReadsOperand i s s.p.x fun v =>
        { s with p := compareFlags s.p (bitsOf s.p.x) (atWidth s.p.x s.y) v.toNat, pc := pcAfter i s })

/-- AND, ORA, EOR in every mode: the bitwise result into A at wA, n and z from it; nothing else but PC changes (R251, R252, R253, R96).
The order of the byte accesses is the spec's own decision (D28, D37; log entry 7), and what a collaborator answers is free (log entry 8). -/
def Obligations.LogicIntoAccumulator : Prop :=
  ∀ (i : Instr) (s : State),
    let after := fun (r : Word) =>
      { s with a := putAt s.p.m s.a r, p := nzOf s.p s.p.m (atWidth s.p.m r), pc := pcAfter i s }
    (i.mnemonic = .and →
      i.opcode ∈ ([0x21, 0x23, 0x25, 0x27, 0x29, 0x2D, 0x2F, 0x31, 0x32, 0x33, 0x35, 0x37, 0x39, 0x3D, 0x3F] : List Byte) ∧
      ReadsOperand i s s.p.m fun v => after (s.a &&& v)) ∧
    (i.mnemonic = .ora →
      i.opcode ∈ ([0x01, 0x03, 0x05, 0x07, 0x09, 0x0D, 0x0F, 0x11, 0x12, 0x13, 0x15, 0x17, 0x19, 0x1D, 0x1F] : List Byte) ∧
      ReadsOperand i s s.p.m fun v => after (s.a ||| v)) ∧
    (i.mnemonic = .eor →
      i.opcode ∈ ([0x41, 0x43, 0x45, 0x47, 0x49, 0x4D, 0x4F, 0x51, 0x52, 0x53, 0x55, 0x57, 0x59, 0x5D, 0x5F] : List Byte) ∧
      ReadsOperand i s s.p.m fun v => after (s.a ^^^ v))

/-- BIT: z from A and the operand; n and v from its two top bits for the memory forms only; A and all else unchanged (R254, R96).
The order of the byte accesses is the spec's own decision (D28, D37; log entry 7), and what a collaborator answers is free (log entry 8). -/
def Obligations.BitTestsOperand : Prop :=
  ∀ (i : Instr) (s : State), i.mnemonic = .bit →
    i.opcode ∈ ([0x24, 0x2C, 0x34, 0x3C, 0x89] : List Byte) ∧
    ReadsOperand i s s.p.m fun v =>
      let bits := bitsOf s.p.m
      let z := decide (atWidth s.p.m (s.a &&& v) = 0)
      { s with
        p := if i.tag = .immM then { s.p with z := z }
          else { s.p with z := z, n := decide (v.toNat / 2 ^ (bits - 1) % 2 = 1),
                          v := decide (v.toNat / 2 ^ (bits - 2) % 2 = 1) },
        pc := pcAfter i s }

/-- TSB and TRB: z from A and the old operand, the operand with A's bits set or reset written back, nothing else but PC (R255, R256, R85, R96).
The order of the byte accesses is the spec's own decision (D28, D37; log entry 7), and what a collaborator answers is free (log entry 8). -/
def Obligations.TestAndSetResetBits : Prop :=
  ∀ (i : Instr) (s : State),
    (i.mnemonic = .tsb → i.opcode ∈ ([0x04, 0x0C] : List Byte) ∧
      WritesOperand i s s.p.m true fun b =>
        (b ||| s.a, { s.p with z := decide (atWidth s.p.m (s.a &&& b) = 0) })) ∧
    (i.mnemonic = .trb → i.opcode ∈ ([0x14, 0x1C] : List Byte) ∧
      WritesOperand i s s.p.m true fun b =>
        (b &&& ~~~s.a, { s.p with z := decide (atWidth s.p.m (s.a &&& b) = 0) }))

/-- INC DEC ASL LSR ROL ROR on A: the result at wA, n, z, and for the shifts c the bit shifted out; nothing else but PC (R164, R257, R258, R263, R264, R265, R266). -/
def Obligations.ReadModifyWriteAccumulator : Prop :=
  ∀ (i : Instr) (s : State), i.mnemonic ∈ rmwMnemonics → i.tag = .acc →
    let r := rmwResult i.mnemonic (bitsOf s.p.m) (atWidth s.p.m s.a) s.p.c
    exec i s = .next { s with a := putAt s.p.m s.a (BitVec.ofNat 16 r.1), p := rmwFlags s.p r, pc := s.pc + 1 }

/-- INC DEC ASL LSR ROL ROR on memory: the result written back where the operand was read, n, z, c; nothing else but PC (R141, R241, R257, R258, R263, R264, R265, R266, R85, R96).
The order of the byte accesses is the spec's own decision (D28, D37; log entry 7), and what a collaborator answers is free (log entry 8). -/
def Obligations.ReadModifyWriteMemory : Prop :=
  ∀ (i : Instr) (s : State), i.mnemonic ∈ rmwMnemonics → i.tag ≠ .acc →
    WritesOperand i s s.p.m true fun b =>
      let r := rmwResult i.mnemonic (bitsOf s.p.m) b.toNat s.p.c
      (BitVec.ofNat 16 r.1, rmwFlags s.p r)

/-- INX INY DEX DEY step X or Y by one mod 2^w at wX and set n, z; nothing else but PC changes (R259, R260, R261, R262). -/
def Obligations.IndexIncrementDecrement : Prop :=
  [Instr.inx, .iny, .dex, .dey].map Instr.opcode = [0xE8, 0xC8, 0xCA, 0x88] ∧
  ∀ (s : State),
    let bits := bitsOf s.p.x
    let up := fun (v : Word) => (atWidth s.p.x v + 1) % 2 ^ bits
    let down := fun (v : Word) => (atWidth s.p.x v + 2 ^ bits - 1) % 2 ^ bits
    exec .inx s = .next { s with x := putAt s.p.x s.x (BitVec.ofNat 16 (up s.x)), p := nzOf s.p s.p.x (up s.x), pc := s.pc + 1 } ∧
    exec .iny s = .next { s with y := putAt s.p.x s.y (BitVec.ofNat 16 (up s.y)), p := nzOf s.p s.p.x (up s.y), pc := s.pc + 1 } ∧
    exec .dex s = .next { s with x := putAt s.p.x s.x (BitVec.ofNat 16 (down s.x)), p := nzOf s.p s.p.x (down s.x), pc := s.pc + 1 } ∧
    exec .dey s = .next { s with y := putAt s.p.x s.y (BitVec.ofNat 16 (down s.y)), p := nzOf s.p s.p.x (down s.y), pc := s.pc + 1 }

/-- BPL BMI BVC BVS BCC BCS BNE BEQ BRA: PC is the relative target when the flag has its value, else I0 + 2; nothing else (R302, R303, R304, R305, R306, R307, R308, R309, R310). -/
def Obligations.ConditionalBranches : Prop :=
  (∀ (d : Byte), [Instr.bpl d, .bmi d, .bvc d, .bvs d, .bcc d, .bcs d, .bne d, .beq d, .bra d].map Instr.opcode =
    [0x10, 0x30, 0x50, 0x70, 0x90, 0xB0, 0xD0, 0xF0, 0x80]) ∧
  ∀ (s : State) (d : Byte),
    let goes := fun (taken : Bool) => { s with pc := if taken then branchTarget s.pc d else s.pc + 2 }
    exec (.bpl d) s = .next (goes (s.p.n == false)) ∧ exec (.bmi d) s = .next (goes (s.p.n == true)) ∧
    exec (.bvc d) s = .next (goes (s.p.v == false)) ∧ exec (.bvs d) s = .next (goes (s.p.v == true)) ∧
    exec (.bcc d) s = .next (goes (s.p.c == false)) ∧ exec (.bcs d) s = .next (goes (s.p.c == true)) ∧
    exec (.bne d) s = .next (goes (s.p.z == false)) ∧ exec (.beq d) s = .next (goes (s.p.z == true)) ∧
    exec (.bra d) s = .next (goes true)

/-- BRL, JMP (three forms) and JML (two forms): PC, and for JML PBR, from the operand or the pointer; nothing else changes (R311, R312, R313, R157, R158, R159, R96).
The order of the byte accesses is the spec's own decision (D28, D37; log entry 7), and what a collaborator answers is free (log entry 8). -/
def Obligations.JumpsAndLongBranch : Prop :=
  (∀ (w : Word) (v : Addr), [Instr.brl w, .jmpAbs w, .jmpAbsInd w, .jmpAbsXInd w, .jmlLong v, .jmlAbsIndL w].map Instr.opcode =
    [0x82, 0x4C, 0x6C, 0x7C, 0x5C, 0xDC]) ∧
  ∀ (s : State) (d hhll : Word) (v : Addr),
    let ptr := inBank 0 hhll.toNat
    let ptrX := inBank s.pbr (hhll.toNat + atWidth s.p.x s.x)
    exec (.brl d) s = .next { s with pc := BitVec.ofNat 16 (s.pc.toNat + 3 + d.toNat) } ∧
    exec (.jmpAbs hhll) s = .next { s with pc := hhll } ∧
    exec (.jmpAbsInd hhll) s = .next (performed { s with pc := valueOf s false [] ptr } (readsOf ptr 2)) ∧
    exec (.jmpAbsXInd hhll) s = .next (performed { s with pc := valueOf s false [] ptrX } (readsOf ptrX 2)) ∧
    exec (.jmlLong v) s =
      .next { s with pbr := BitVec.ofNat 8 (v.toNat / 65536), pc := BitVec.ofNat 16 (v.toNat % 65536) } ∧
    exec (.jmlAbsIndL hhll) s =
      .next (performed { s with pbr := byteOf s [] ptr 2, pc := valueOf s false [] ptr } (readsOf ptr 3))

/-- JSR and JSL push the offset of their last byte (JSL the bank first) and jump; pointers are read before the pushes (R314, R315, R91, R92, R159, R96).
That JSR (addr,X) reads its pointer before the pushes is the spec's own decision D28, log entry 7. The order of the byte accesses is the spec's own decision (D28, D37; log entry 7), and what a collaborator answers is free (log entry 8). -/
def Obligations.CallsPushTheirLastByte : Prop :=
  (∀ (w : Word) (v : Addr), [Instr.jsrAbs w, .jsrAbsXInd w, .jsl v].map Instr.opcode = [0x20, 0xFC, 0x22]) ∧
  ∀ (s : State) (hhll : Word) (v : Addr),
    let ptr := inBank s.pbr (hhll.toNat + atWidth s.p.x s.x)
    PushesTo (.jsrAbs hhll) s [] [hiByte (s.pc + 2), loByte (s.pc + 2)] { s with pc := hhll } ∧
    PushesTo (.jsrAbsXInd hhll) s (readsOf ptr 2) [hiByte (s.pc + 2), loByte (s.pc + 2)]
      { s with pc := valueOf s false [] ptr } ∧
    PushesTo (.jsl v) s [] [s.pbr, hiByte (s.pc + 3), loByte (s.pc + 3)]
      { s with pbr := BitVec.ofNat 8 (v.toNat / 65536), pc := BitVec.ofNat 16 (v.toNat % 65536) }

/-- RTS pulls PC and adds one in the bank; RTL also pulls PBR, into which the increment does not carry; nothing else (R316, R317, R93, R94, R96).
The order of the byte accesses is the spec's own decision (D28, D37; log entry 7), and what a collaborator answers is free (log entry 8). -/
def Obligations.ReturnsPullAndAddOne : Prop :=
  [Instr.rts, .rtl].map Instr.opcode = [0x60, 0x6B] ∧
  ∀ (s : State),
    exec .rts s = .next (performed
      { s with pc := pulledAt s false + 1, sp := pullSp s.p.e s.sp 2 } (readsOf (pullPlace s) 2)) ∧
    exec .rtl s = .next (performed
      { s with pc := pulledAt s false + 1, pbr := pulled s 3, sp := pullSp s.p.e s.sp 3 } (readsOf (pullPlace s) 3))

/-- With plain RAM, JSR then RTS and JSL then RTL, the stack undisturbed, resume after the call with SP and PBR restored (R318, R49). -/
def Obligations.CallThenReturnResumesAfterCall : Prop :=
  ∀ (s : State) (w : Word) (v : Addr), s.emulationOk = true → s.params.memory = .ram →
    (∃ t u : State, exec (.jsrAbs w) s = .next t ∧ exec .rts t = .next u ∧
      { u with mem := s.mem } = { s with pc := s.pc + 3 }) ∧
    (∃ t u : State, exec (.jsrAbsXInd w) s = .next t ∧ exec .rts t = .next u ∧
      { u with mem := s.mem } = { s with pc := s.pc + 3 }) ∧
    (∃ t u : State, exec (.jsl v) s = .next t ∧ exec .rtl t = .next u ∧
      { u with mem := s.mem } = { s with pc := s.pc + 4 })

/-- PHA PHX PHY (at wA, wX), PHB, PHD, PHK, PHP push their bytes, high byte first, and change nothing else but SP and PC (R342, R343, R344, R345, R346, R347, R348, R91, R92, R96).
The order of the byte accesses is the spec's own decision (D28, D37; log entry 7), and what a collaborator answers is free (log entry 8). -/
def Obligations.RegisterPushes : Prop :=
  [Instr.pha, .phx, .phy, .phb, .phd, .phk, .php].map Instr.opcode = [0x48, 0xDA, 0x5A, 0x8B, 0x0B, 0x4B, 0x08] ∧
  ∀ (s : State),
    let after := { s with pc := s.pc + 1 }
    PushesTo .pha s [] (pushBytes s.p.m s.a) after ∧ PushesTo .phx s [] (pushBytes s.p.x s.x) after ∧
    PushesTo .phy s [] (pushBytes s.p.x s.y) after ∧ PushesTo .phb s [] [s.dbr] after ∧
    PushesTo .phd s [] [hiByte s.d, loByte s.d] after ∧ PushesTo .phk s [] [s.pbr] after ∧
    PushesTo .php s [] [statusByte s.p true] after

/-- PEA pushes its immediate, PEI the pointer at the direct address, PER the relative target; nothing else but SP, PC (R349, R350, R351, R91, R92, R96).
The order of the byte accesses is the spec's own decision (D28, D37; log entry 7), and what a collaborator answers is free (log entry 8). -/
def Obligations.AddressPushes : Prop :=
  (∀ (w : Word) (ll : Byte), [Instr.pea w, .pei ll, .per w].map Instr.opcode = [0xF4, 0xD4, 0x62]) ∧
  ∀ (s : State) (w : Word) (ll : Byte),
    let ptr := inBank 0 (s.directAddr 0xD4 ll 0).toNat
    let target := BitVec.ofNat 16 (s.pc.toNat + 3 + w.toNat)
    PushesTo (.pea w) s [] [hiByte w, loByte w] { s with pc := s.pc + 3 } ∧
    PushesTo (.pei ll) s (readsOf ptr 2) [byteOf s [] ptr 1, byteOf s [] ptr 0] { s with pc := s.pc + 2 } ∧
    PushesTo (.per w) s [] [hiByte target, loByte target] { s with pc := s.pc + 3 }

/-- PLA PLX PLY PLB PLD pull at their width into the register, n and z from the value; nothing else but SP and PC (R341, R352, R353, R354, R355, R356, R93, R94, R96).
That PLB sets n and z is the spec's own decision D41, log entry 7. The order of the byte accesses is the spec's own decision (D28, D37; log entry 7), and what a collaborator answers is free (log entry 8). -/
def Obligations.RegisterPulls : Prop :=
  [Instr.pla, .plx, .ply, .plb, .pld].map Instr.opcode = [0x68, 0xFA, 0x7A, 0xAB, 0x2B] ∧
  ∀ (s : State),
    let pulls := fun (n : Nat) (t : State) =>
      Host.Outcome.next (performed { t with sp := pullSp s.p.e s.sp n, pc := s.pc + 1 } (readsOf (pullPlace s) n))
    exec .pla s = pulls (bytesOf s.p.m)
      { s with a := putAt s.p.m s.a (pulledAt s s.p.m), p := nzOf s.p s.p.m (pulledAt s s.p.m).toNat } ∧
    exec .plx s = pulls (bytesOf s.p.x)
      { s with x := putAt s.p.x s.x (pulledAt s s.p.x), p := nzOf s.p s.p.x (pulledAt s s.p.x).toNat } ∧
    exec .ply s = pulls (bytesOf s.p.x)
      { s with y := putAt s.p.x s.y (pulledAt s s.p.x), p := nzOf s.p s.p.x (pulledAt s s.p.x).toNat } ∧
    exec .plb s = pulls 1 { s with dbr := pulled s 1, p := nzOf s.p true (pulled s 1).toNat } ∧
    exec .pld s = pulls 2 { s with d := pulledAt s false, p := nzOf s.p false (pulledAt s false).toNat }

/-- PLP: n v d i z c from the pulled byte, m and x in native mode only, e and b never, then the width effects; SP, PC (R357, R46, R47, R93, R96).
The order of the byte accesses is the spec's own decision (D28, D37; log entry 7), and what a collaborator answers is free (log entry 8). -/
def Obligations.PlpReplacesFlags : Prop :=
  Instr.plp.opcode = 0x28 ∧
  ∀ (s : State), exec .plp s = .next (performed
    (settled { s with p := flagsOfByte s.p (pulled s 1), sp := pullSp s.p.e s.sp 1, pc := s.pc + 1 })
    (readsOf (pullPlace s) 1))

/-- With plain RAM PHA;PLA PHX;PLX PHY;PLY PHB;PLB PHD;PLD restore the register, set n, z; PHP;PLP restores flags; SP restored (R358, R49, R50).
The n and z of the PHB;PLB clause are the spec's own decision D41, log entry 7. -/
def Obligations.PushThenPullRoundTrips : Prop :=
  ∀ (s : State), s.emulationOk = true → s.indexOk = true → s.params.memory = .ram →
    let back := fun (push pull : Instr) (p : Flags) => ∃ t u : State,
      exec push s = .next t ∧ exec pull t = .next u ∧ { u with mem := s.mem } = { s with p := p, pc := s.pc + 2 }
    back .pha .pla (nzOf s.p s.p.m (atWidth s.p.m s.a)) ∧ back .phx .plx (nzOf s.p s.p.x (atWidth s.p.x s.x)) ∧
    back .phy .ply (nzOf s.p s.p.x (atWidth s.p.x s.y)) ∧ back .phb .plb (nzOf s.p true s.dbr.toNat) ∧
    back .phd .pld (nzOf s.p false s.d.toNat) ∧ back .php .plp s.p

/-- CLC SEC CLI SEI CLD SED CLV write their one flag, NOP nothing, WAI and STP halt; PC + 1; nothing else changes (R381, R382, R383, R384, R385, R386, R387, R391, R393, R394).
That STP halts in the same state as WAI is the spec's own decision D21, log entry 7. -/
def Obligations.FlagNopAndHaltInstructions : Prop :=
  [Instr.clc, .sec, .cli, .sei, .cld, .sed, .clv, .nop, .wai, .stp].map Instr.opcode =
    [0x18, 0x38, 0x58, 0x78, 0xD8, 0xF8, 0xB8, 0xEA, 0xCB, 0xDB] ∧
  ∀ (s : State),
    exec .clc s = .next { s with p := { s.p with c := false }, pc := s.pc + 1 } ∧
    exec .sec s = .next { s with p := { s.p with c := true }, pc := s.pc + 1 } ∧
    exec .cli s = .next { s with p := { s.p with i := false }, pc := s.pc + 1 } ∧
    exec .sei s = .next { s with p := { s.p with i := true }, pc := s.pc + 1 } ∧
    exec .cld s = .next { s with p := { s.p with d := false }, pc := s.pc + 1 } ∧
    exec .sed s = .next { s with p := { s.p with d := true }, pc := s.pc + 1 } ∧
    exec .clv s = .next { s with p := { s.p with v := false }, pc := s.pc + 1 } ∧
    exec .nop s = .next { s with pc := s.pc + 1 } ∧
    exec .wai s = .next { s with run := .halted, pc := s.pc + 1 } ∧
    exec .stp s = .next { s with run := .halted, pc := s.pc + 1 }

/-- REP clears and SEP sets the flags its mask selects in the native layout, never e or b, then the width effects; PC + 2 (R388, R389). -/
def Obligations.RepSepMaskFlags : Prop :=
  (∀ (k : Byte), [Instr.rep k, .sep k].map Instr.opcode = [0xC2, 0xE2]) ∧
  ∀ (s : State) (k : Byte),
    exec (.rep k) s = .next (settled { s with
      p := { s.p with n := s.p.n && !bitOf k 7, v := s.p.v && !bitOf k 6, m := s.p.m && !bitOf k 5,
                      x := s.p.x && !bitOf k 4, d := s.p.d && !bitOf k 3, i := s.p.i && !bitOf k 2,
                      z := s.p.z && !bitOf k 1, c := s.p.c && !bitOf k 0 },
      pc := s.pc + 2 }) ∧
    exec (.sep k) s = .next (settled { s with
      p := { s.p with n := s.p.n || bitOf k 7, v := s.p.v || bitOf k 6, m := s.p.m || bitOf k 5,
                      x := s.p.x || bitOf k 4, d := s.p.d || bitOf k 3, i := s.p.i || bitOf k 2,
                      z := s.p.z || bitOf k 1, c := s.p.c || bitOf k 0 },
      pc := s.pc + 2 })

/-- XCE exchanges c and e; entering emulation forces m = x = 1, masks X and Y, pins SP; leaving keeps widths; PC + 1 (R390). -/
def Obligations.XceExchangesCarryAndEmulation : Prop :=
  Instr.xce.opcode = 0xFB ∧
  ∀ (s : State),
    (s.p.c = true → exec .xce s = .next { s with
      p := { s.p with c := s.p.e, e := true, m := true, x := true }, x := BitVec.ofNat 16 (s.x.toNat % 256),
      y := BitVec.ofNat 16 (s.y.toNat % 256), sp := BitVec.ofNat 16 (256 + s.sp.toNat % 256), pc := s.pc + 1 }) ∧
    (s.p.c = false → exec .xce s = .next { s with
      p := { s.p with c := s.p.e, e := false },
      x := BitVec.ofNat 16 (if s.p.x then s.x.toNat % 256 else s.x.toNat),
      y := BitVec.ofNat 16 (if s.p.x then s.y.toNat % 256 else s.y.toNat), pc := s.pc + 1 })

/-- WDM: under P_WDM = fault the run state is Faulted(UnmappedOpcode, PBR, I0, 0x42) with PC = I0 + 1; under nop2 PC + 2 (R112, R392, R431, R434, R435, R446, R448).
That the faulting step answers a next state in the run state Faulted, with PC = I0 + 1 and the cost left subtracted, is DEDUCED (log entry 6; the part of R434 it rests on is the spec's own inference, with D32), and so is that only the opcode is fetched (log entry 10). The two policies are the parameter P_WDM (D4, log entry 4). -/
def Obligations.WdmFaultsOrSkips : Prop :=
  ∀ (s : State) (sig : Byte),
    let fault := RunState.faulted .unmappedOpcode s.pbr s.pc 0x42
    (Instr.wdm sig).opcode = 0x42 ∧
    (s.params.wdm = .fault → exec (.wdm sig) s = .next { s with run := fault, pc := s.pc + 1 }) ∧
    (s.params.wdm = .nop2 → exec (.wdm sig) s = .next { s with pc := s.pc + 2 }) ∧
    (s.params.wdm = .fault → s.run = .running → s.fetch = .wdm sig → ∃ t : State, step s = .next t ∧
      { t with cyc := s.cyc, draws := s.draws } =
        performed { s with run := fault, pc := s.pc + 1 } (readsOf (codePlace s) 1) ∧
      ∀ (cost : CostRule) (poll : Nat), s.params.timing = .budget cost poll →
        t.cyc = s.cyc - (s.cost 0x42 : Int) ∧ t.draws = s.draws)

/-- BRK and COP skip the signature and enter the trap: frame pushed, i set, d cleared, PBR 0, PC from the vector in bank 0 (R395, R396, R440, R441, R443, R48, R96).
The sequence of R440, with the vector read after the pushes, is the spec's own decision (D16, D22, D28, D40; log entry 7). What a collaborator answers is free (log entry 8). -/
def Obligations.SoftwareTrapsEnter : Prop :=
  (∀ (sig : Byte), [Instr.brk sig, .cop sig].map Instr.opcode = [0x00, 0x02]) ∧
  ∀ (s : State) (sig : Byte),
    (∃ t : State, exec (.brk sig) s = .next t ∧ Enters { s with pc := s.pc + 2 } t .brk) ∧
    (∃ t : State, exec (.cop sig) s = .next t ∧ Enters { s with pc := s.pc + 2 } t .cop) ∧
    (∀ kind : TrapKind, Enters s (s.enter kind) kind)

/-- RTI pulls the status byte, PC and, in native mode only, PBR; flags as PLP; no increment; nothing else changes (R397, R46, R47, R93, R96).
The order of the byte accesses is the spec's own decision (D28, D37; log entry 7), and what a collaborator answers is free (log entry 8). -/
def Obligations.RtiRestoresStatusAndPc : Prop :=
  Instr.rti.opcode = 0x40 ∧
  ∀ (s : State),
    let n := if s.p.e then 3 else 4
    exec .rti s = .next (performed
      { settled { s with p := flagsOfByte s.p (pulled s 1) } with
        sp := pullSp s.p.e s.sp n, pc := wordOf (pulled s 3) (pulled s 2),
        pbr := if s.p.e then s.pbr else pulled s 4 }
      (readsOf (pullPlace s) n))

/-- With plain RAM, BRK or COP then RTI, the stack undisturbed, resumes after the signature with flags and SP restored (R441, R444, R397, R440).
The frame of R440 is the spec's own decision (D16, D22, D40; log entry 7). -/
def Obligations.TrapThenRtiResumes : Prop :=
  ∀ (s : State) (sig : Byte), s.emulationOk = true → s.indexOk = true → s.params.memory = .ram →
    let back := fun (trap : Instr) => ∃ t u : State, exec trap s = .next t ∧ exec .rti t = .next u ∧
      { u with mem := s.mem } =
        { s with p := { s.p with b := s.p.e || s.p.b }, pbr := if s.p.e then 0 else s.pbr, pc := s.pc + 2 }
    back (.brk sig) ∧ back (.cop sig)

/-- MVN and MVP move one byte, step X, Y by +1 or -1 at wX, count A down in 16 bits, set DBR, and repeat until A wraps (R166, R421, R422, R423, R96).
That the count is all 16 bits of C whatever m is, and A + 1 bytes in all, is the spec's own decision (D26, D42; log entry 7). The order of the byte accesses is the spec's own decision (D28, D37; log entry 7), and what a collaborator answers is free (log entry 8). -/
def Obligations.BlockMoveIteration : Prop :=
  (∀ (dst src : Byte), [Instr.mvn dst src, .mvp dst src].map Instr.opcode = [0x54, 0x44]) ∧
  ∀ (s : State) (dst src : Byte),
    MovesOneByte (.mvn dst src) dst src 1 s ∧ MovesOneByte (.mvp dst src) dst src (-1) s

/-- MVN and MVP run A + 1 times: every byte copied in turn, A = FFFF, PC past the instruction, nothing else changed (R166, R421, R422, R423).
That the count is all 16 bits of C whatever m is, and A + 1 bytes in all, is the spec's own decision (D26, D42; log entry 7). -/
def Obligations.MvnMovesWholeBlockAcrossBanks : Prop :=
  ∀ (s : State) (dst src : Byte) (down : Bool), s.params.memory = .ram →
    let i := if down then Instr.mvp dst src else .mvn dst src
    let delta : Int := if down then -1 else 1
    let source := blockSource s src delta
    let dest := blockDest s dst delta
    ∀ n : Nat, n ≤ s.a.toNat + 1 → ∃ t : State, execTimes i n s = some t ∧
      { t with mem := s.mem } =
        { s with a := s.a - BitVec.ofNat 16 n, x := putAt s.p.x s.x (indexAfter s.p.x s.x delta n),
                 y := putAt s.p.x s.y (indexAfter s.p.x s.y delta n), dbr := if n = 0 then s.dbr else dst,
                 pc := if n = s.a.toNat + 1 then s.pc + 3 else s.pc } ∧
      (∀ q : Addr, t.load q = copied s source dest n q) ∧
      (n = s.a.toNat + 1 → dst ≠ src →
        (∀ j : Nat, j < n → t.load (dest j) = s.load (source j)) ∧
        ∀ q : Addr, (∀ j : Nat, j < n → q ≠ dest j) → t.load q = s.load q)

/-- The poll: exit request first, then NMI (latch cleared), then IRQ if i = 0, else a masked IRQ wakes a halted core (R436, R438, R440, R442).
The order of the poll and what wakes a halted core are the spec's own decisions (D18, D19, D21, D33; log entry 7), as is the entry (D16, D22, D40). -/
def Obligations.PollTakesExitThenNmiThenIrq : Prop :=
  ∀ (s : State),
    (s.exitRequest = true → s.poll = { s with run := .terminated }) ∧
    (s.exitRequest = false → s.nmiPending = true →
      Enters { s with nmiPending := false, run := .running } s.poll .nmi) ∧
    (s.exitRequest = false → s.nmiPending = false → s.irqLine = true → s.p.i = false →
      Enters { s with run := .running } s.poll .irq) ∧
    (s.exitRequest = false → s.nmiPending = false → s.irqLine = true → s.p.i = true →
      s.poll = { s with run := if s.run = .halted then .running else s.run }) ∧
    (s.exitRequest = false → s.nmiPending = false → s.irqLine = false → s.poll = s)

/-- A Running step fetches the instruction at PBR:PC, charges its cost, executes it, and polls if the budget or the draw says so (R12, R112, R392, R431, R432, R433, R435, R437).
How a draw is made is the model's own form (log entry 3), and that each byte is fetched once, in order, is DEDUCED (log entry 10). -/
def Obligations.StepRunsDecodedInstruction : Prop :=
  ∀ (s : State) (i : Instr) (n : Nat),
    decode s.p.m s.p.x ((List.range n).map fun k => byteOf s [] (codePlace s) k) = .ok (i, []) →
    let reads := readsOf (codePlace s) (if i.opcode = 0x42 ∧ s.params.wdm = .fault then 1 else n)
    s.fetch = i ∧
    (∀ (cost : CostRule) (poll : Nat), s.run = .running → s.params.timing = .budget cost poll →
      step s =
        match exec i (performed { s with cyc := s.cyc - (s.cost i.opcode : Int) } reads) with
        | .next t =>
          .next (if t.safe = true ∧ t.cyc ≤ 0 then ({ t with cyc := t.cyc + pollPeriod t.params } : State).poll else t)
        | .fault r => .fault r
        | .refused r => .refused r) ∧
    (s.run = .running → s.params.timing = .draw →
      step s =
        match exec i (performed { s with cyc := Config.cycDraw (s.draws + 1), draws := s.draws + 1 } reads) with
        | .next t => .next (if t.safe = true ∧ Config.pollDraw (s.draws + 1) = true then t.poll else t)
        | .fault r => .fault r
        | .refused r => .refused r)

/-- Halted: a step is a poll with cyc and, with no request, everything unchanged; Terminated and Faulted have no step (R431, R438, R446, R451, R455).
That a step from Terminated or Faulted answers a stop is the model's choice (log entry 6): the spec says only that there is no step. -/
def Obligations.StepByRunState : Prop :=
  ∀ (s : State),
    (s.run = .halted → step s = .next s.poll) ∧
    (s.exitRequest = false → s.nmiPending = false → s.irqLine = false → s.poll = s) ∧
    (s.poll.cyc = s.cyc ∧ s.poll.draws = s.draws ∧ s.poll.a = s.a ∧ s.poll.x = s.x ∧ s.poll.y = s.y ∧ s.poll.d = s.d ∧
      s.poll.dbr = s.dbr ∧ s.poll.params = s.params ∧ s.poll.exitRequest = s.exitRequest ∧
      s.poll.irqLine = s.irqLine) ∧
    (s.run = .terminated → step s = .fault .terminated) ∧
    (∀ (k : FaultKind) (b : Byte) (o : Word) (c : Byte),
      s.run = .faulted k b o c → step s = .fault (.faulted k b o c))

/-- A step answers a next state exactly from Running or Halted, and the run state it leaves is as R456 says (R393, R394, R447, R456, R434).
That STP halts like WAI, and that any IRQ, masked or not, ends the halt, is the spec's own decision D21, log entry 7. That a step from Terminated or Faulted answers a stop is the model's choice (log entry 6): the spec says only that there is no step. R456 is the spec's own inference. -/
def Obligations.RunStateTransitions : Prop :=
  ∀ (s : State),
    ((∃ t : State, step s = .next t) ↔ (s.run = .running ∨ s.run = .halted)) ∧
    ∀ (t : State), step s = .next t →
      (∀ (k : FaultKind) (b : Byte) (o : Word) (c : Byte), t.run = .faulted k b o c →
        s.run = .running ∧ (∃ sig : Byte, s.fetch = .wdm sig) ∧ s.params.wdm = .fault ∧
          k = .unmappedOpcode ∧ b = s.pbr ∧ o = s.pc ∧ c = 0x42) ∧
      (t.run = .terminated → s.exitRequest = true) ∧
      (t.run = .halted →
        (s.run = .running ∧ (s.fetch = .wai ∨ s.fetch = .stp)) ∨
        (s.run = .halted ∧ s.exitRequest = false ∧ s.nmiPending = false ∧ s.irqLine = false))

/-- Reset: registers and flags zero, PBR:PC at P_ENTRY, Running, cyc = P_POLL, NMI latch clear; memory and host inputs kept (R481, R482, R486).
That exit_request and irq_line are false at construction is the model's choice (log entry 5), as are the fields draws and bus (log entries 14 and 15). The last clause on R49 and R50 is R482's own inference. -/
def Obligations.ResetState : Prop :=
  (∀ (s : State),
    let r := s.hostReset
    r.a = 0 ∧ r.x = 0 ∧ r.y = 0 ∧ r.sp = 0 ∧ r.d = 0 ∧ r.dbr = 0 ∧
    r.pbr.toNat = s.params.entry.toNat / 65536 ∧ r.pc.toNat = s.params.entry.toNat % 65536 ∧
    r.p = { c := false, z := false, n := false, v := false, d := false, i := false, b := false, e := false,
            m := false, x := false } ∧
    r.run = .running ∧ r.cyc = pollPeriod s.params ∧ 0 < r.cyc ∧ r.nmiPending = false ∧
    r.exitRequest = s.exitRequest ∧ r.irqLine = s.irqLine ∧ r.mem = s.mem ∧ r.bus = s.bus ∧ r.draws = s.draws ∧ r.params = s.params ∧
    r.emulationOk = true ∧ r.indexOk = true) ∧
  ∀ (par : Params) (mem0 : Memory),
    (State.construct par mem0).params = par ∧
    State.construct par mem0 =
      { (State.construct par mem0).hostReset with mem := mem0, bus := [], draws := 0, exitRequest := false, irqLine := false }

/-- The invariant (R49, R50, canonical memory) holds at reset, and at construction with any canonical image (R49, R50, R482). -/
def Obligations.InvariantHoldsAtReset : Prop :=
  State.reset.inv = true ∧
  ∀ (par : Params) (mem0 : Memory), mem0.wf = true → (State.construct par mem0).inv = true

/-- Every step from a state that keeps R49, R50 and canonical memory leads to a state that keeps them (R47, R49, R50, R431). -/
def Obligations.StepKeepsInvariant : Prop :=
  ∀ (s t : State), s.inv = true → step s = .next t → t.inv = true

/-- Each flag is written only by the instructions the rules list for it; e only by XCE, b only by BRK and COP (R40, R41, R42, R43, R44, R48). -/
def Obligations.FlagsWrittenOnlyByTheirInstructions : Prop :=
  ∀ (i : Instr) (s t : State), exec i s = .next t →
    let all : List Mnemonic := [.rep, .sep, .plp, .rti]
    let nz : List Mnemonic := all ++ ([.lda, .ldx, .ldy, .adc, .sbc, .and, .ora, .eor, .inc, .dec, .inx, .iny, .dex, .dey,
      .asl, .lsr, .rol, .ror, .cmp, .cpx, .cpy, .tax, .tay, .txa, .tya, .txy, .tyx, .tsx, .tsc, .tcd, .tdc, .xba,
      .pla, .plx, .ply, .plb, .pld, .bit] : List Mnemonic)
    (i.mnemonic ∉ all ++ ([.adc, .sbc, .cmp, .cpx, .cpy, .asl, .lsr, .rol, .ror, .clc, .sec, .xce] : List Mnemonic) → t.p.c = s.p.c) ∧
    (i.mnemonic ∉ nz ++ ([.tsb, .trb] : List Mnemonic) → t.p.z = s.p.z) ∧
    (i.mnemonic ∉ nz → t.p.n = s.p.n) ∧
    (i.mnemonic ∉ all ++ ([.adc, .sbc, .bit, .clv] : List Mnemonic) → t.p.v = s.p.v) ∧
    (i.mnemonic ∉ all ++ ([.cld, .sed, .brk, .cop] : List Mnemonic) → t.p.d = s.p.d) ∧
    (i.mnemonic ∉ all ++ ([.cli, .sei, .brk, .cop] : List Mnemonic) → t.p.i = s.p.i) ∧
    (i.mnemonic ∉ ([.brk, .cop] : List Mnemonic) → t.p.b = s.p.b) ∧
    (i.mnemonic ≠ .xce → t.p.e = s.p.e) ∧
    (i.mnemonic ∉ all ++ ([.xce] : List Mnemonic) → t.p.m = s.p.m ∧ t.p.x = s.p.x)

/-- D is written only by TCD and PLD, DBR by PLB and the block moves, PBR by JML JSL RTL RTI and traps, SP by stack users (R34, R35, R36, R37). -/
def Obligations.BankDirectAndStackRegisterWriters : Prop :=
  ∀ (i : Instr) (s t : State), exec i s = .next t →
    (i.mnemonic ∉ ([.tcd, .pld] : List Mnemonic) → t.d = s.d) ∧
    (i.mnemonic ∉ ([.plb, .mvn, .mvp] : List Mnemonic) → t.dbr = s.dbr) ∧
    (i.mnemonic ∉ ([.jml, .jsl, .rtl, .rti, .brk, .cop] : List Mnemonic) → t.pbr = s.pbr) ∧
    (i.mnemonic ∉ ([.pha, .phx, .phy, .phb, .phd, .phk, .php, .pea, .pei, .per, .pla, .plx, .ply, .plb, .pld, .plp,
        .jsr, .jsl, .rts, .rtl, .rti, .brk, .cop, .tcs, .txs, .xce] : List Mnemonic) →
      (i.mnemonic ∈ ([.rep, .sep] : List Mnemonic) → s.p.e = false) → t.sp = s.sp)

/-- Only stores, memory read-modify-writes, pushes, calls, software traps and block moves write memory; the rest only read (R52, R88, R96, R97).
What a collaborator answers is free (log entry 8). -/
def Obligations.OnlyStoringInstructionsWriteMemory : Prop :=
  ∀ (i : Instr) (s t : State), exec i s = .next t →
    i.mnemonic ∉ ([.sta, .stx, .sty, .stz, .tsb, .trb, .mvn, .mvp, .jsr, .jsl, .brk, .cop, .pha, .phx, .phy, .phb, .phd,
      .phk, .php, .pea, .pei, .per] : List Mnemonic) →
    (i.mnemonic ∈ rmwMnemonics → i.tag = .acc) →
    t.mem = s.mem ∧ Accesses s t fun e => ∃ a : Addr, e = .read a

/-- With m = 1 only XBA, TSC, TDC and the block moves can change the high byte of A (R32, R51). -/
def Obligations.HiddenAccumulatorByteKept : Prop :=
  ∀ (i : Instr) (s t : State), s.p.m = true → exec i s = .next t →
    (i.mnemonic ∉ ([.xba, .tsc, .tdc, .mvn, .mvp] : List Mnemonic) → hiByte t.a = hiByte s.a) ∧
    (i.mnemonic ∈ ([.rep, .sep, .plp, .rti, .xce] : List Mnemonic) → t.a = s.a)

/-- Every instruction answers a next state in every mode; none writes cyc, the draws, the host's inputs or the parameters (R55, R88, R434, R437, R447, R449). -/
def Obligations.EveryInstructionCompletesAndLeavesInputs : Prop :=
  ∀ (i : Instr) (s : State), ∃ t : State, exec i s = .next t ∧
    t.cyc = s.cyc ∧ t.draws = s.draws ∧ t.exitRequest = s.exitRequest ∧ t.nmiPending = s.nmiPending ∧ t.irqLine = s.irqLine ∧
    t.params = s.params ∧ Accesses s t (fun e => ∀ k : Nat, e ≠ .outside k) ∧
    (i.mnemonic ∉ ([.wai, .stp, .wdm] : List Mnemonic) → t.run = s.run) ∧
    (s.safe = true → t.safe = false → i.mnemonic = .wdm ∧ s.params.wdm = .fault)

/-- An instruction's operand: the one its tag names, with the bytes of its encoding as its fields (R113, R114, R116, R117, R143). -/
def Obligations.OperandFollowsTagAndBytes : Prop :=
  (∀ (ll : Byte) (w : Word) (v : Addr),
    [Instr.ldaImm w, .ldxImm w, .ldyImm w, .ldaDp ll, .ldaDpX ll, .ldxDpY ll, .ldaDpInd ll, .ldaDpIndL ll, .ldaDpXInd ll,
      .ldaDpIndY ll, .ldaDpIndLY ll, .ldaAbs w, .ldaAbsX w, .ldaAbsY w, .ldaLong v, .ldaLongX v, .ldaSr ll,
      .ldaSrIndY ll].map Instr.sourceOperand =
    [some (.imm w), some (.imm w), some (.imm w)] ++
      ([.dp ll, .dpX ll, .dpY ll, .dpInd ll, .dpIndL ll, .dpXInd ll, .dpIndY ll, .dpIndLY ll, .abs w, .absX w, .absY w,
        .long v, .longX v, .sr ll, .srIndY ll] : List MemOperand).map fun o => some (.mem o)) ∧
  (∀ (i : Instr) (o : MemOperand), i.memOperand = some o ↔ i.sourceOperand = some (.mem o)) ∧
  ∀ (m x : Bool) (i j : Instr), i.wellFormed m x = true → j.wellFormed m x = true → i.tag = j.tag →
    (encode m x i).tail = (encode m x j).tail → i.sourceOperand = j.sourceOperand ∧ i.memOperand = j.memOperand

/-- Each host move changes its one input only; a step keeps the exit request, IRQ and parameters and never raises NMI (R55, R97, R450, R481).
The form of the moves on memory is the model's (log entries 8, 11 and 15); the reset by the host is ResetState. -/
def Obligations.HostMovesAndWhatStepsOwe : Prop :=
  (∀ (s : State) (level : Bool) (k : Nat),
    s.requestExit = { s with exitRequest := true } ∧ s.raiseNmi = { s with nmiPending := true } ∧
    s.setIrq level = { s with irqLine := level } ∧
    s.replaceMemory = { s with params := { s.params with memory := .bus }, bus := [] } ∧
    (s.params.memory = .ram → s.busEvent k = s) ∧
    (s.params.memory = .bus → s.busEvent k = { s with bus := .outside k :: s.bus })) ∧
  ∀ (s t : State), step s = .next t →
    t.exitRequest = s.exitRequest ∧ t.irqLine = s.irqLine ∧ t.params = s.params ∧
      (s.nmiPending = false → t.nmiPending = false)

/-- An instruction's cost and the poll period are at least 1, whatever the parameters; a positive table entry is the cost (R6, R435).
That a zero or missing entry counts as 1 is the model's choice (log entry 3). -/
def Obligations.CostsAndPollPeriodArePositive : Prop :=
  (∀ (s : State) (op : Byte), 1 ≤ s.cost op ∧
    ∀ (costs : List Nat) (poll c : Nat), s.params.timing = .budget (.table costs) poll → costs[op.toNat]? = some c →
      1 ≤ c → s.cost op = c) ∧
  ∀ (par : Params), 1 ≤ pollPeriod par ∧
    ∀ (cost : CostRule) (poll : Nat), par.timing = .budget cost poll → 1 ≤ poll → pollPeriod par = poll

/-- Within one bank MVN downward and MVP upward copy intact, the other direction replicates, the same place changes nothing (R166, R422, R423, R424).
R424 is the spec's own inference from R422 and R423; where the offsets wrap it does not speak, and the bounds on p + A leave those cases out. That the count is all 16 bits of C whatever m is, and A + 1 bytes in all, is the spec's own decision (D26, D42; log entry 7). -/
def Obligations.BlockMoveOverlapWithinOneBank : Prop :=
  ∀ (s : State) (bank : Byte) (down : Bool), s.params.memory = .ram → s.params.blockRoles = .architecture →
    let i := if down then Instr.mvp bank bank else .mvn bank bank
    let delta : Int := if down then -1 else 1
    let source := blockSource s bank delta
    let dest := blockDest s bank delta
    let a := s.a.toNat
    let ahead : Int := ((atWidth s.p.x s.y : Int) - atWidth s.p.x s.x) * delta
    ∃ t : State, execTimes i (a + 1) s = some t ∧
      (ahead ≤ 0 → -ahead + a < 2 ^ bitsOf s.p.x → ∀ j : Nat, j ≤ a → t.load (dest j) = s.load (source j)) ∧
      (∀ p : Nat, ahead = p → 0 < p → p ≤ a → p + a < 2 ^ bitsOf s.p.x →
        ∀ j : Nat, j ≤ a → t.load (dest j) = s.load (source (j % p))) ∧
      (ahead = 0 → ∀ q : Addr, t.load q = s.load q)
end

