-- ==== Sys2Proof/Laws/Bits.lean ====
section
/-! SUPPORT. The laws of the byte, address and width helpers of Machine/Bits.lean. -/

namespace Sys2Proof

theorem addrOf_toNat (b : Byte) (o : Word) : (addrOf b o).toNat = b.toNat * 65536 + o.toNat := by
  have h := o.isLt
  simp only [addrOf, BitVec.toNat_append]
  rw [Nat.shiftLeft_eq, Nat.mul_comm, ← Nat.two_pow_add_eq_or_of_lt h]

theorem wordOf_toNat (hi lo : Byte) : (wordOf hi lo).toNat = hi.toNat * 256 + lo.toNat := by
  have h := lo.isLt
  simp only [wordOf, BitVec.toNat_append]
  rw [Nat.shiftLeft_eq, Nat.mul_comm, ← Nat.two_pow_add_eq_or_of_lt h]

theorem loByte_toNat (v : Word) : (loByte v).toNat = v.toNat % 256 := by simp [loByte]

theorem hiByte_toNat (v : Word) : (hiByte v).toNat = v.toNat / 256 := by
  have h := v.isLt
  simp [hiByte, Nat.shiftRight_eq_div_pow]; omega

theorem bankOf_toNat (a : Addr) : (bankOf a).toNat = a.toNat / 65536 := by
  have h := a.isLt
  simp [bankOf, Nat.shiftRight_eq_div_pow]; omega

theorem offsetOf_toNat (a : Addr) : (offsetOf a).toNat = a.toNat % 65536 := by simp [offsetOf]

theorem zextByte_toNat (v : Byte) : (zextByte v).toNat = v.toNat := by
  have h := v.isLt
  simp [zextByte]; omega

@[simp] theorem loByte_wordOf (hi lo : Byte) : loByte (wordOf hi lo) = lo := by
  have h := lo.isLt
  apply BitVec.eq_of_toNat_eq
  rw [loByte_toNat, wordOf_toNat]; omega

@[simp] theorem hiByte_wordOf (hi lo : Byte) : hiByte (wordOf hi lo) = hi := by
  have h := lo.isLt
  apply BitVec.eq_of_toNat_eq
  rw [hiByte_toNat, wordOf_toNat]; omega

@[simp] theorem wordOf_hi_lo (v : Word) : wordOf (hiByte v) (loByte v) = v := by
  apply BitVec.eq_of_toNat_eq
  rw [wordOf_toNat, hiByte_toNat, loByte_toNat]; omega

@[simp] theorem loByte_zextByte (v : Byte) : loByte (zextByte v) = v := by
  have h := v.isLt
  apply BitVec.eq_of_toNat_eq
  rw [loByte_toNat, zextByte_toNat]; omega

@[simp] theorem hiByte_zextByte (v : Byte) : hiByte (zextByte v) = 0 := by
  have h := v.isLt
  apply BitVec.eq_of_toNat_eq
  rw [hiByte_toNat, zextByte_toNat]; simp; omega

@[simp] theorem bankOf_addrOf (b : Byte) (o : Word) : bankOf (addrOf b o) = b := by
  have h := o.isLt
  apply BitVec.eq_of_toNat_eq
  rw [bankOf_toNat, addrOf_toNat]; omega

@[simp] theorem offsetOf_addrOf (b : Byte) (o : Word) : offsetOf (addrOf b o) = o := by
  have h := o.isLt
  apply BitVec.eq_of_toNat_eq
  rw [offsetOf_toNat, addrOf_toNat]; omega

@[simp] theorem addrOf_bank_offset (a : Addr) : addrOf (bankOf a) (offsetOf a) = a := by
  apply BitVec.eq_of_toNat_eq
  rw [addrOf_toNat, bankOf_toNat, offsetOf_toNat]; omega

theorem addrOf_inj {b b' : Byte} {o o' : Word} : addrOf b o = addrOf b' o' ↔ b = b' ∧ o = o' := by
  constructor
  · intro h
    exact ⟨by simpa using congrArg bankOf h, by simpa using congrArg offsetOf h⟩
  · rintro ⟨rfl, rfl⟩; rfl

theorem inbankNext_toNat (a : Addr) :
    (inbankNext a).toNat = a.toNat / 65536 * 65536 + (a.toNat % 65536 + 1) % 65536 := by
  simp [inbankNext, addrOf_toNat, bankOf_toNat, offsetOf_toNat, BitVec.toNat_add]

theorem next24_toNat (a : Addr) : (next24 a).toNat = (a.toNat + 1) % 2 ^ 24 := by
  simp [next24, BitVec.toNat_add]

theorem addIndex_toNat (a : Addr) (i : Word) : (addIndex a i).toNat = (a.toNat + i.toNat) % 2 ^ 24 := by
  have h := i.isLt
  simp [addIndex, BitVec.toNat_add]

theorem inbankNext_ne (a : Addr) : inbankNext a ≠ a := by
  intro h
  have h' := congrArg BitVec.toNat h
  rw [inbankNext_toNat] at h'
  omega

theorem next24_ne (a : Addr) : next24 a ≠ a := by
  intro h
  have h' := congrArg BitVec.toNat h
  have := a.isLt
  rw [next24_toNat] at h'
  omega

theorem trunc_toNat (w : Width) (v : Word) : (w.trunc v).toNat = v.toNat % 2 ^ w.bits := by
  have h := v.isLt
  cases w
  · simp [Width.trunc, Width.bits, zextByte_toNat, loByte_toNat]
  · simp only [Width.trunc, Width.bits]; omega

@[simp] theorem trunc_trunc (w : Width) (v : Word) : w.trunc (w.trunc v) = w.trunc v := by
  apply BitVec.eq_of_toNat_eq
  simp [trunc_toNat]

theorem sign_eq (w : Width) (v : Word) : w.sign v = decide (2 ^ (w.bits - 1) ≤ v.toNat % 2 ^ w.bits) := by
  have h := v.isLt
  cases w
  · simp only [Width.sign, Width.bits, BitVec.getLsbD, Nat.testBit_eq_decide_div_mod_eq]
    congr 1
    simp only [eq_iff_iff]
    omega
  · simp only [Width.sign, Width.bits, BitVec.getLsbD, Nat.testBit_eq_decide_div_mod_eq]
    congr 1
    simp only [eq_iff_iff]
    omega

end Sys2Proof
end

