-- ==== Sys2Proof/Laws/Flags.lean ====
section
/-! SUPPORT. What the adders and the shifts compute, as numbers: carry and overflow as comparisons with the exact sum or
difference (R242, R244), results as arithmetic mod 2^w (R263-R266). A later proof cites these and does not unfold them. -/

namespace Sys2Proof.Machine

theorem sign_xor (w : Width) (a b : Word) : w.sign (a ^^^ b) = (w.sign a ^^ w.sign b) := by simp [Width.sign]

theorem sign_and (w : Width) (a b : Word) : w.sign (a &&& b) = (w.sign a && w.sign b) := by simp [Width.sign]

/-- Two exclusive ors of tests, both 1, as one test. -/
theorem xor_and_eq_decide (p q r t : Prop) [Decidable p] [Decidable q] [Decidable r] [Decidable t] :
    ((decide p ^^ decide q) && (decide r ^^ decide t)) = decide (¬(p ↔ q) ∧ ¬(r ↔ t)) := by
  by_cases hp : p <;> by_cases hq : q <;> by_cases hr : r <;> by_cases ht : t <;> simp [hp, hq, hr, ht]

/-! ### The binary adders -/

theorem binAdd_value (w : Width) (a b : Word) (c : Bool) :
    (binAdd w a b c).value.toNat = (a.toNat + b.toNat + c.toNat) % 2 ^ w.bits := by
  cases w <;> simp only [binAdd, Width.bits, BitVec.toNat_ofNat] <;> omega

/-- The overflow of a sum is that its signed reading leaves the range of the width (R242). -/
theorem binAdd_overflow (w : Width) (a b : Word) (c : Bool) (ha : a.toNat < 2 ^ w.bits) (hb : b.toNat < 2 ^ w.bits) :
    (binAdd w a b c).overflow =
      let signed := fun v : Word => if v.toNat < 2 ^ (w.bits - 1) then (v.toNat : Int) else v.toNat - 2 ^ w.bits
      decide (signed a + signed b + c.toNat < -2 ^ (w.bits - 1) ∨
        2 ^ (w.bits - 1) ≤ signed a + signed b + c.toNat) := by
  have hv := binAdd_value w a b c
  have ho : (binAdd w a b c).overflow =
      ((w.sign a ^^ w.sign (binAdd w a b c).value) && (w.sign b ^^ w.sign (binAdd w a b c).value)) := by
    rw [← sign_xor, ← sign_xor, ← sign_and]; rfl
  rw [ho]
  simp only [sign_eq, hv]
  have hc : c.toNat ≤ 1 := by cases c <;> simp
  rw [xor_and_eq_decide, decide_eq_decide]
  by_cases h1 : a.toNat < 2 ^ (w.bits - 1) <;> by_cases h2 : b.toNat < 2 ^ (w.bits - 1) <;>
    simp only [h1, h2, if_true, if_false] <;> cases w <;>
    simp only [Width.bits, Nat.reduceSub, Nat.reducePow, Int.reducePow] at h1 h2 ha hb ⊢ <;> omega

theorem binSub_value (w : Width) (a b : Word) (c : Bool) :
    ((binSub w a b c).value.toNat : Int) = ((a.toNat : Int) - b.toNat - (1 - c.toNat)) % 2 ^ w.bits := by
  cases w <;> simp only [binSub, Width.bits, BitVec.toNat_ofInt] <;> omega

/-- The overflow of a difference is that its signed reading leaves the range of the width (R244). -/
theorem binSub_overflow (w : Width) (a b : Word) (c : Bool) (ha : a.toNat < 2 ^ w.bits) (hb : b.toNat < 2 ^ w.bits) :
    (binSub w a b c).overflow =
      let signed := fun v : Word => if v.toNat < 2 ^ (w.bits - 1) then (v.toNat : Int) else v.toNat - 2 ^ w.bits
      decide (signed a - signed b - (1 - c.toNat) < -2 ^ (w.bits - 1) ∨
        2 ^ (w.bits - 1) ≤ signed a - signed b - (1 - c.toNat)) := by
  have hv := binSub_value w a b c
  have ho : (binSub w a b c).overflow =
      ((w.sign a ^^ w.sign b) && (w.sign a ^^ w.sign (binSub w a b c).value)) := by
    rw [← sign_xor, ← sign_xor, ← sign_and]; rfl
  rw [ho]
  simp only [sign_eq]
  have hc : c.toNat ≤ 1 := by cases c <;> simp
  rw [xor_and_eq_decide, decide_eq_decide]
  by_cases h1 : a.toNat < 2 ^ (w.bits - 1) <;> by_cases h2 : b.toNat < 2 ^ (w.bits - 1) <;>
    simp only [h1, h2, if_true, if_false] <;> cases w <;>
    simp only [Width.bits, Nat.reduceSub, Nat.reducePow, Int.reducePow] at h1 h2 ha hb hv ⊢ <;> omega

/-! ### Shifts and rotates -/

theorem aslResult_toNat (w : Width) (v : Word) : (aslResult w v).1.toNat = 2 * v.toNat % 2 ^ w.bits := by
  cases w <;> simp only [aslResult, trunc_toNat, Width.bits, BitVec.toNat_shiftLeft, Nat.shiftLeft_eq] <;> omega

theorem lsrResult_toNat (w : Width) (v : Word) : (lsrResult w v).1.toNat = v.toNat / 2 := by
  simp [lsrResult, Nat.shiftRight_eq_div_pow]

theorem rolResult_toNat (w : Width) (c : Bool) (v : Word) :
    (rolResult w c v).1.toNat = (2 * v.toNat + c.toNat) % 2 ^ w.bits := by
  have h : (v <<< 1 ||| BitVec.ofNat 16 c.toNat).toNat = 2 * (v.toNat % 32768) + c.toNat := by
    have hv := v.isLt
    have e : (v <<< 1).toNat = 2 * (v.toNat % 32768) := by
      simp only [BitVec.toNat_shiftLeft, Nat.shiftLeft_eq]; omega
    have hc : (BitVec.ofNat 16 c.toNat).toNat = c.toNat := by cases c <;> rfl
    rw [BitVec.toNat_or, e, hc]
    exact (Nat.two_pow_add_eq_or_of_lt (i := 1) (by cases c <;> simp) _).symm
  cases w <;> simp only [rolResult, trunc_toNat, Width.bits, h] <;> omega

theorem rorResult_toNat (w : Width) (c : Bool) (v : Word) (hv : v.toNat < 2 ^ w.bits) :
    (rorResult w c v).1.toNat = v.toNat / 2 + c.toNat * 2 ^ (w.bits - 1) := by
  have h : ∀ k, v.toNat / 2 < 2 ^ k → k < 16 →
      (v >>> 1 ||| BitVec.ofNat 16 c.toNat <<< k).toNat = v.toNat / 2 + c.toNat * 2 ^ k := by
    intro k hk hk16
    have hc : (BitVec.ofNat 16 c.toNat <<< k).toNat = 2 ^ k * c.toNat := by
      have hp : 2 ^ k < 2 ^ 16 := Nat.pow_lt_pow_right (by omega) hk16
      cases c
      · simp
      · simp only [BitVec.toNat_shiftLeft, BitVec.toNat_ofNat, Bool.toNat_true, Nat.shiftLeft_eq]
        rw [Nat.mod_eq_of_lt (by omega)]; omega
    rw [BitVec.toNat_or, hc, BitVec.toNat_ushiftRight, Nat.shiftRight_eq_div_pow, Nat.pow_one, Nat.lor_comm,
      ← Nat.two_pow_add_eq_or_of_lt hk]
    ring
  cases w
  · exact h 7 (by simp only [Width.bits] at hv; omega) (by omega)
  · exact h 15 (by simp only [Width.bits] at hv; omega) (by omega)

/-- The bit that LSR and ROR shift out (R264, R266). -/
theorem getLsbD_zero_eq (v : Word) : v.getLsbD 0 = decide (v.toNat % 2 = 1) := by
  simp [BitVec.getLsbD, Nat.testBit_eq_decide_div_mod_eq]

end Sys2Proof.Machine
end

