-- ==== Sys2Proof/Laws/State.lean ====
section
/-! SUPPORT. The small lemmas of the state's updates: for each named update, each field it leaves alone, and the value of
each field it writes. No later proof unfolds a record update. -/

namespace Sys2Proof.Machine

variable (s : State)

/-! ### `noteRead` -/

@[simp] theorem noteRead_a (q : Addr) : (s.noteRead q).a = s.a := rfl
@[simp] theorem noteRead_x (q : Addr) : (s.noteRead q).x = s.x := rfl
@[simp] theorem noteRead_y (q : Addr) : (s.noteRead q).y = s.y := rfl
@[simp] theorem noteRead_sp (q : Addr) : (s.noteRead q).sp = s.sp := rfl
@[simp] theorem noteRead_d (q : Addr) : (s.noteRead q).d = s.d := rfl
@[simp] theorem noteRead_dbr (q : Addr) : (s.noteRead q).dbr = s.dbr := rfl
@[simp] theorem noteRead_pbr (q : Addr) : (s.noteRead q).pbr = s.pbr := rfl
@[simp] theorem noteRead_pc (q : Addr) : (s.noteRead q).pc = s.pc := rfl
@[simp] theorem noteRead_p (q : Addr) : (s.noteRead q).p = s.p := rfl
@[simp] theorem noteRead_run (q : Addr) : (s.noteRead q).run = s.run := rfl
@[simp] theorem noteRead_cyc (q : Addr) : (s.noteRead q).cyc = s.cyc := rfl
@[simp] theorem noteRead_exitRequest (q : Addr) : (s.noteRead q).exitRequest = s.exitRequest := rfl
@[simp] theorem noteRead_nmiPending (q : Addr) : (s.noteRead q).nmiPending = s.nmiPending := rfl
@[simp] theorem noteRead_irqLine (q : Addr) : (s.noteRead q).irqLine = s.irqLine := rfl
@[simp] theorem noteRead_mem (q : Addr) : (s.noteRead q).mem = s.mem := rfl
@[simp] theorem noteRead_bus (q : Addr) : (s.noteRead q).bus = s.record (.read q) := rfl
@[simp] theorem noteRead_draws (q : Addr) : (s.noteRead q).draws = s.draws := rfl
@[simp] theorem noteRead_params (q : Addr) : (s.noteRead q).params = s.params := rfl

/-! ### `noteReads` -/

@[simp] theorem noteReads_a (l : List Addr) : (s.noteReads l).a = s.a := by
  induction l generalizing s <;> simp_all [State.noteReads]
@[simp] theorem noteReads_x (l : List Addr) : (s.noteReads l).x = s.x := by
  induction l generalizing s <;> simp_all [State.noteReads]
@[simp] theorem noteReads_y (l : List Addr) : (s.noteReads l).y = s.y := by
  induction l generalizing s <;> simp_all [State.noteReads]
@[simp] theorem noteReads_sp (l : List Addr) : (s.noteReads l).sp = s.sp := by
  induction l generalizing s <;> simp_all [State.noteReads]
@[simp] theorem noteReads_d (l : List Addr) : (s.noteReads l).d = s.d := by
  induction l generalizing s <;> simp_all [State.noteReads]
@[simp] theorem noteReads_dbr (l : List Addr) : (s.noteReads l).dbr = s.dbr := by
  induction l generalizing s <;> simp_all [State.noteReads]
@[simp] theorem noteReads_pbr (l : List Addr) : (s.noteReads l).pbr = s.pbr := by
  induction l generalizing s <;> simp_all [State.noteReads]
@[simp] theorem noteReads_pc (l : List Addr) : (s.noteReads l).pc = s.pc := by
  induction l generalizing s <;> simp_all [State.noteReads]
@[simp] theorem noteReads_p (l : List Addr) : (s.noteReads l).p = s.p := by
  induction l generalizing s <;> simp_all [State.noteReads]
@[simp] theorem noteReads_run (l : List Addr) : (s.noteReads l).run = s.run := by
  induction l generalizing s <;> simp_all [State.noteReads]
@[simp] theorem noteReads_cyc (l : List Addr) : (s.noteReads l).cyc = s.cyc := by
  induction l generalizing s <;> simp_all [State.noteReads]
@[simp] theorem noteReads_exitRequest (l : List Addr) : (s.noteReads l).exitRequest = s.exitRequest := by
  induction l generalizing s <;> simp_all [State.noteReads]
@[simp] theorem noteReads_nmiPending (l : List Addr) : (s.noteReads l).nmiPending = s.nmiPending := by
  induction l generalizing s <;> simp_all [State.noteReads]
@[simp] theorem noteReads_irqLine (l : List Addr) : (s.noteReads l).irqLine = s.irqLine := by
  induction l generalizing s <;> simp_all [State.noteReads]
@[simp] theorem noteReads_mem (l : List Addr) : (s.noteReads l).mem = s.mem := by
  induction l generalizing s <;> simp_all [State.noteReads]
@[simp] theorem noteReads_draws (l : List Addr) : (s.noteReads l).draws = s.draws := by
  induction l generalizing s <;> simp_all [State.noteReads]
@[simp] theorem noteReads_params (l : List Addr) : (s.noteReads l).params = s.params := by
  induction l generalizing s <;> simp_all [State.noteReads]

/-! ### `store` -/

@[simp] theorem store_a (q : Addr) (v : Byte) : (s.store q v).a = s.a := rfl
@[simp] theorem store_x (q : Addr) (v : Byte) : (s.store q v).x = s.x := rfl
@[simp] theorem store_y (q : Addr) (v : Byte) : (s.store q v).y = s.y := rfl
@[simp] theorem store_sp (q : Addr) (v : Byte) : (s.store q v).sp = s.sp := rfl
@[simp] theorem store_d (q : Addr) (v : Byte) : (s.store q v).d = s.d := rfl
@[simp] theorem store_dbr (q : Addr) (v : Byte) : (s.store q v).dbr = s.dbr := rfl
@[simp] theorem store_pbr (q : Addr) (v : Byte) : (s.store q v).pbr = s.pbr := rfl
@[simp] theorem store_pc (q : Addr) (v : Byte) : (s.store q v).pc = s.pc := rfl
@[simp] theorem store_p (q : Addr) (v : Byte) : (s.store q v).p = s.p := rfl
@[simp] theorem store_run (q : Addr) (v : Byte) : (s.store q v).run = s.run := rfl
@[simp] theorem store_cyc (q : Addr) (v : Byte) : (s.store q v).cyc = s.cyc := rfl
@[simp] theorem store_exitRequest (q : Addr) (v : Byte) : (s.store q v).exitRequest = s.exitRequest := rfl
@[simp] theorem store_nmiPending (q : Addr) (v : Byte) : (s.store q v).nmiPending = s.nmiPending := rfl
@[simp] theorem store_irqLine (q : Addr) (v : Byte) : (s.store q v).irqLine = s.irqLine := rfl
@[simp] theorem store_mem (q : Addr) (v : Byte) : (s.store q v).mem = s.cellsAfter q v := rfl
@[simp] theorem store_bus (q : Addr) (v : Byte) : (s.store q v).bus = s.record (.write q v) := rfl
@[simp] theorem store_draws (q : Addr) (v : Byte) : (s.store q v).draws = s.draws := rfl
@[simp] theorem store_params (q : Addr) (v : Byte) : (s.store q v).params = s.params := rfl

/-! ### `writeAt` -/

@[simp] theorem writeAt_a (w : Width) (ea : Ea) (v : Word) : (s.writeAt w ea v).a = s.a := by cases w <;> rfl
@[simp] theorem writeAt_x (w : Width) (ea : Ea) (v : Word) : (s.writeAt w ea v).x = s.x := by cases w <;> rfl
@[simp] theorem writeAt_y (w : Width) (ea : Ea) (v : Word) : (s.writeAt w ea v).y = s.y := by cases w <;> rfl
@[simp] theorem writeAt_sp (w : Width) (ea : Ea) (v : Word) : (s.writeAt w ea v).sp = s.sp := by cases w <;> rfl
@[simp] theorem writeAt_d (w : Width) (ea : Ea) (v : Word) : (s.writeAt w ea v).d = s.d := by cases w <;> rfl
@[simp] theorem writeAt_dbr (w : Width) (ea : Ea) (v : Word) : (s.writeAt w ea v).dbr = s.dbr := by cases w <;> rfl
@[simp] theorem writeAt_pbr (w : Width) (ea : Ea) (v : Word) : (s.writeAt w ea v).pbr = s.pbr := by cases w <;> rfl
@[simp] theorem writeAt_pc (w : Width) (ea : Ea) (v : Word) : (s.writeAt w ea v).pc = s.pc := by cases w <;> rfl
@[simp] theorem writeAt_p (w : Width) (ea : Ea) (v : Word) : (s.writeAt w ea v).p = s.p := by cases w <;> rfl
@[simp] theorem writeAt_run (w : Width) (ea : Ea) (v : Word) : (s.writeAt w ea v).run = s.run := by cases w <;> rfl
@[simp] theorem writeAt_cyc (w : Width) (ea : Ea) (v : Word) : (s.writeAt w ea v).cyc = s.cyc := by cases w <;> rfl
@[simp] theorem writeAt_exitRequest (w : Width) (ea : Ea) (v : Word) : (s.writeAt w ea v).exitRequest = s.exitRequest := by cases w <;> rfl
@[simp] theorem writeAt_nmiPending (w : Width) (ea : Ea) (v : Word) : (s.writeAt w ea v).nmiPending = s.nmiPending := by cases w <;> rfl
@[simp] theorem writeAt_irqLine (w : Width) (ea : Ea) (v : Word) : (s.writeAt w ea v).irqLine = s.irqLine := by cases w <;> rfl
@[simp] theorem writeAt_draws (w : Width) (ea : Ea) (v : Word) : (s.writeAt w ea v).draws = s.draws := by cases w <;> rfl
@[simp] theorem writeAt_params (w : Width) (ea : Ea) (v : Word) : (s.writeAt w ea v).params = s.params := by cases w <;> rfl

/-! ### `setA` -/

@[simp] theorem setA_a (w : Width) (v : Word) : (s.setA w v).a = w.merge s.a v := rfl
@[simp] theorem setA_x (w : Width) (v : Word) : (s.setA w v).x = s.x := rfl
@[simp] theorem setA_y (w : Width) (v : Word) : (s.setA w v).y = s.y := rfl
@[simp] theorem setA_sp (w : Width) (v : Word) : (s.setA w v).sp = s.sp := rfl
@[simp] theorem setA_d (w : Width) (v : Word) : (s.setA w v).d = s.d := rfl
@[simp] theorem setA_dbr (w : Width) (v : Word) : (s.setA w v).dbr = s.dbr := rfl
@[simp] theorem setA_pbr (w : Width) (v : Word) : (s.setA w v).pbr = s.pbr := rfl
@[simp] theorem setA_pc (w : Width) (v : Word) : (s.setA w v).pc = s.pc := rfl
@[simp] theorem setA_p (w : Width) (v : Word) : (s.setA w v).p = s.p := rfl
@[simp] theorem setA_run (w : Width) (v : Word) : (s.setA w v).run = s.run := rfl
@[simp] theorem setA_cyc (w : Width) (v : Word) : (s.setA w v).cyc = s.cyc := rfl
@[simp] theorem setA_exitRequest (w : Width) (v : Word) : (s.setA w v).exitRequest = s.exitRequest := rfl
@[simp] theorem setA_nmiPending (w : Width) (v : Word) : (s.setA w v).nmiPending = s.nmiPending := rfl
@[simp] theorem setA_irqLine (w : Width) (v : Word) : (s.setA w v).irqLine = s.irqLine := rfl
@[simp] theorem setA_mem (w : Width) (v : Word) : (s.setA w v).mem = s.mem := rfl
@[simp] theorem setA_bus (w : Width) (v : Word) : (s.setA w v).bus = s.bus := rfl
@[simp] theorem setA_draws (w : Width) (v : Word) : (s.setA w v).draws = s.draws := rfl
@[simp] theorem setA_params (w : Width) (v : Word) : (s.setA w v).params = s.params := rfl

/-! ### `setX` -/

@[simp] theorem setX_a (w : Width) (v : Word) : (s.setX w v).a = s.a := rfl
@[simp] theorem setX_x (w : Width) (v : Word) : (s.setX w v).x = w.merge s.x v := rfl
@[simp] theorem setX_y (w : Width) (v : Word) : (s.setX w v).y = s.y := rfl
@[simp] theorem setX_sp (w : Width) (v : Word) : (s.setX w v).sp = s.sp := rfl
@[simp] theorem setX_d (w : Width) (v : Word) : (s.setX w v).d = s.d := rfl
@[simp] theorem setX_dbr (w : Width) (v : Word) : (s.setX w v).dbr = s.dbr := rfl
@[simp] theorem setX_pbr (w : Width) (v : Word) : (s.setX w v).pbr = s.pbr := rfl
@[simp] theorem setX_pc (w : Width) (v : Word) : (s.setX w v).pc = s.pc := rfl
@[simp] theorem setX_p (w : Width) (v : Word) : (s.setX w v).p = s.p := rfl
@[simp] theorem setX_run (w : Width) (v : Word) : (s.setX w v).run = s.run := rfl
@[simp] theorem setX_cyc (w : Width) (v : Word) : (s.setX w v).cyc = s.cyc := rfl
@[simp] theorem setX_exitRequest (w : Width) (v : Word) : (s.setX w v).exitRequest = s.exitRequest := rfl
@[simp] theorem setX_nmiPending (w : Width) (v : Word) : (s.setX w v).nmiPending = s.nmiPending := rfl
@[simp] theorem setX_irqLine (w : Width) (v : Word) : (s.setX w v).irqLine = s.irqLine := rfl
@[simp] theorem setX_mem (w : Width) (v : Word) : (s.setX w v).mem = s.mem := rfl
@[simp] theorem setX_bus (w : Width) (v : Word) : (s.setX w v).bus = s.bus := rfl
@[simp] theorem setX_draws (w : Width) (v : Word) : (s.setX w v).draws = s.draws := rfl
@[simp] theorem setX_params (w : Width) (v : Word) : (s.setX w v).params = s.params := rfl

/-! ### `setY` -/

@[simp] theorem setY_a (w : Width) (v : Word) : (s.setY w v).a = s.a := rfl
@[simp] theorem setY_x (w : Width) (v : Word) : (s.setY w v).x = s.x := rfl
@[simp] theorem setY_y (w : Width) (v : Word) : (s.setY w v).y = w.merge s.y v := rfl
@[simp] theorem setY_sp (w : Width) (v : Word) : (s.setY w v).sp = s.sp := rfl
@[simp] theorem setY_d (w : Width) (v : Word) : (s.setY w v).d = s.d := rfl
@[simp] theorem setY_dbr (w : Width) (v : Word) : (s.setY w v).dbr = s.dbr := rfl
@[simp] theorem setY_pbr (w : Width) (v : Word) : (s.setY w v).pbr = s.pbr := rfl
@[simp] theorem setY_pc (w : Width) (v : Word) : (s.setY w v).pc = s.pc := rfl
@[simp] theorem setY_p (w : Width) (v : Word) : (s.setY w v).p = s.p := rfl
@[simp] theorem setY_run (w : Width) (v : Word) : (s.setY w v).run = s.run := rfl
@[simp] theorem setY_cyc (w : Width) (v : Word) : (s.setY w v).cyc = s.cyc := rfl
@[simp] theorem setY_exitRequest (w : Width) (v : Word) : (s.setY w v).exitRequest = s.exitRequest := rfl
@[simp] theorem setY_nmiPending (w : Width) (v : Word) : (s.setY w v).nmiPending = s.nmiPending := rfl
@[simp] theorem setY_irqLine (w : Width) (v : Word) : (s.setY w v).irqLine = s.irqLine := rfl
@[simp] theorem setY_mem (w : Width) (v : Word) : (s.setY w v).mem = s.mem := rfl
@[simp] theorem setY_bus (w : Width) (v : Word) : (s.setY w v).bus = s.bus := rfl
@[simp] theorem setY_draws (w : Width) (v : Word) : (s.setY w v).draws = s.draws := rfl
@[simp] theorem setY_params (w : Width) (v : Word) : (s.setY w v).params = s.params := rfl

/-! ### `setNZ` -/

@[simp] theorem setNZ_a (w : Width) (v : Word) : (s.setNZ w v).a = s.a := rfl
@[simp] theorem setNZ_x (w : Width) (v : Word) : (s.setNZ w v).x = s.x := rfl
@[simp] theorem setNZ_y (w : Width) (v : Word) : (s.setNZ w v).y = s.y := rfl
@[simp] theorem setNZ_sp (w : Width) (v : Word) : (s.setNZ w v).sp = s.sp := rfl
@[simp] theorem setNZ_d (w : Width) (v : Word) : (s.setNZ w v).d = s.d := rfl
@[simp] theorem setNZ_dbr (w : Width) (v : Word) : (s.setNZ w v).dbr = s.dbr := rfl
@[simp] theorem setNZ_pbr (w : Width) (v : Word) : (s.setNZ w v).pbr = s.pbr := rfl
@[simp] theorem setNZ_pc (w : Width) (v : Word) : (s.setNZ w v).pc = s.pc := rfl
@[simp] theorem setNZ_p (w : Width) (v : Word) : (s.setNZ w v).p = { s.p with n := w.sign v, z := decide (w.trunc v = 0) } := rfl
@[simp] theorem setNZ_run (w : Width) (v : Word) : (s.setNZ w v).run = s.run := rfl
@[simp] theorem setNZ_cyc (w : Width) (v : Word) : (s.setNZ w v).cyc = s.cyc := rfl
@[simp] theorem setNZ_exitRequest (w : Width) (v : Word) : (s.setNZ w v).exitRequest = s.exitRequest := rfl
@[simp] theorem setNZ_nmiPending (w : Width) (v : Word) : (s.setNZ w v).nmiPending = s.nmiPending := rfl
@[simp] theorem setNZ_irqLine (w : Width) (v : Word) : (s.setNZ w v).irqLine = s.irqLine := rfl
@[simp] theorem setNZ_mem (w : Width) (v : Word) : (s.setNZ w v).mem = s.mem := rfl
@[simp] theorem setNZ_bus (w : Width) (v : Word) : (s.setNZ w v).bus = s.bus := rfl
@[simp] theorem setNZ_draws (w : Width) (v : Word) : (s.setNZ w v).draws = s.draws := rfl
@[simp] theorem setNZ_params (w : Width) (v : Word) : (s.setNZ w v).params = s.params := rfl

/-! ### `setC` -/

@[simp] theorem setC_a (v : Bool) : (s.setC v).a = s.a := rfl
@[simp] theorem setC_x (v : Bool) : (s.setC v).x = s.x := rfl
@[simp] theorem setC_y (v : Bool) : (s.setC v).y = s.y := rfl
@[simp] theorem setC_sp (v : Bool) : (s.setC v).sp = s.sp := rfl
@[simp] theorem setC_d (v : Bool) : (s.setC v).d = s.d := rfl
@[simp] theorem setC_dbr (v : Bool) : (s.setC v).dbr = s.dbr := rfl
@[simp] theorem setC_pbr (v : Bool) : (s.setC v).pbr = s.pbr := rfl
@[simp] theorem setC_pc (v : Bool) : (s.setC v).pc = s.pc := rfl
@[simp] theorem setC_p (v : Bool) : (s.setC v).p = { s.p with c := v } := rfl
@[simp] theorem setC_run (v : Bool) : (s.setC v).run = s.run := rfl
@[simp] theorem setC_cyc (v : Bool) : (s.setC v).cyc = s.cyc := rfl
@[simp] theorem setC_exitRequest (v : Bool) : (s.setC v).exitRequest = s.exitRequest := rfl
@[simp] theorem setC_nmiPending (v : Bool) : (s.setC v).nmiPending = s.nmiPending := rfl
@[simp] theorem setC_irqLine (v : Bool) : (s.setC v).irqLine = s.irqLine := rfl
@[simp] theorem setC_mem (v : Bool) : (s.setC v).mem = s.mem := rfl
@[simp] theorem setC_bus (v : Bool) : (s.setC v).bus = s.bus := rfl
@[simp] theorem setC_draws (v : Bool) : (s.setC v).draws = s.draws := rfl
@[simp] theorem setC_params (v : Bool) : (s.setC v).params = s.params := rfl

/-! ### `setZ` -/

@[simp] theorem setZ_a (v : Bool) : (s.setZ v).a = s.a := rfl
@[simp] theorem setZ_x (v : Bool) : (s.setZ v).x = s.x := rfl
@[simp] theorem setZ_y (v : Bool) : (s.setZ v).y = s.y := rfl
@[simp] theorem setZ_sp (v : Bool) : (s.setZ v).sp = s.sp := rfl
@[simp] theorem setZ_d (v : Bool) : (s.setZ v).d = s.d := rfl
@[simp] theorem setZ_dbr (v : Bool) : (s.setZ v).dbr = s.dbr := rfl
@[simp] theorem setZ_pbr (v : Bool) : (s.setZ v).pbr = s.pbr := rfl
@[simp] theorem setZ_pc (v : Bool) : (s.setZ v).pc = s.pc := rfl
@[simp] theorem setZ_p (v : Bool) : (s.setZ v).p = { s.p with z := v } := rfl
@[simp] theorem setZ_run (v : Bool) : (s.setZ v).run = s.run := rfl
@[simp] theorem setZ_cyc (v : Bool) : (s.setZ v).cyc = s.cyc := rfl
@[simp] theorem setZ_exitRequest (v : Bool) : (s.setZ v).exitRequest = s.exitRequest := rfl
@[simp] theorem setZ_nmiPending (v : Bool) : (s.setZ v).nmiPending = s.nmiPending := rfl
@[simp] theorem setZ_irqLine (v : Bool) : (s.setZ v).irqLine = s.irqLine := rfl
@[simp] theorem setZ_mem (v : Bool) : (s.setZ v).mem = s.mem := rfl
@[simp] theorem setZ_bus (v : Bool) : (s.setZ v).bus = s.bus := rfl
@[simp] theorem setZ_draws (v : Bool) : (s.setZ v).draws = s.draws := rfl
@[simp] theorem setZ_params (v : Bool) : (s.setZ v).params = s.params := rfl

/-! ### `setV` -/

@[simp] theorem setV_a (v : Bool) : (s.setV v).a = s.a := rfl
@[simp] theorem setV_x (v : Bool) : (s.setV v).x = s.x := rfl
@[simp] theorem setV_y (v : Bool) : (s.setV v).y = s.y := rfl
@[simp] theorem setV_sp (v : Bool) : (s.setV v).sp = s.sp := rfl
@[simp] theorem setV_d (v : Bool) : (s.setV v).d = s.d := rfl
@[simp] theorem setV_dbr (v : Bool) : (s.setV v).dbr = s.dbr := rfl
@[simp] theorem setV_pbr (v : Bool) : (s.setV v).pbr = s.pbr := rfl
@[simp] theorem setV_pc (v : Bool) : (s.setV v).pc = s.pc := rfl
@[simp] theorem setV_p (v : Bool) : (s.setV v).p = { s.p with v := v } := rfl
@[simp] theorem setV_run (v : Bool) : (s.setV v).run = s.run := rfl
@[simp] theorem setV_cyc (v : Bool) : (s.setV v).cyc = s.cyc := rfl
@[simp] theorem setV_exitRequest (v : Bool) : (s.setV v).exitRequest = s.exitRequest := rfl
@[simp] theorem setV_nmiPending (v : Bool) : (s.setV v).nmiPending = s.nmiPending := rfl
@[simp] theorem setV_irqLine (v : Bool) : (s.setV v).irqLine = s.irqLine := rfl
@[simp] theorem setV_mem (v : Bool) : (s.setV v).mem = s.mem := rfl
@[simp] theorem setV_bus (v : Bool) : (s.setV v).bus = s.bus := rfl
@[simp] theorem setV_draws (v : Bool) : (s.setV v).draws = s.draws := rfl
@[simp] theorem setV_params (v : Bool) : (s.setV v).params = s.params := rfl

/-! ### `setSp` -/

@[simp] theorem setSp_a (v : Word) : (s.setSp v).a = s.a := rfl
@[simp] theorem setSp_x (v : Word) : (s.setSp v).x = s.x := rfl
@[simp] theorem setSp_y (v : Word) : (s.setSp v).y = s.y := rfl
@[simp] theorem setSp_sp (v : Word) : (s.setSp v).sp = pinStack s.p.e v := rfl
@[simp] theorem setSp_d (v : Word) : (s.setSp v).d = s.d := rfl
@[simp] theorem setSp_dbr (v : Word) : (s.setSp v).dbr = s.dbr := rfl
@[simp] theorem setSp_pbr (v : Word) : (s.setSp v).pbr = s.pbr := rfl
@[simp] theorem setSp_pc (v : Word) : (s.setSp v).pc = s.pc := rfl
@[simp] theorem setSp_p (v : Word) : (s.setSp v).p = s.p := rfl
@[simp] theorem setSp_run (v : Word) : (s.setSp v).run = s.run := rfl
@[simp] theorem setSp_cyc (v : Word) : (s.setSp v).cyc = s.cyc := rfl
@[simp] theorem setSp_exitRequest (v : Word) : (s.setSp v).exitRequest = s.exitRequest := rfl
@[simp] theorem setSp_nmiPending (v : Word) : (s.setSp v).nmiPending = s.nmiPending := rfl
@[simp] theorem setSp_irqLine (v : Word) : (s.setSp v).irqLine = s.irqLine := rfl
@[simp] theorem setSp_mem (v : Word) : (s.setSp v).mem = s.mem := rfl
@[simp] theorem setSp_bus (v : Word) : (s.setSp v).bus = s.bus := rfl
@[simp] theorem setSp_draws (v : Word) : (s.setSp v).draws = s.draws := rfl
@[simp] theorem setSp_params (v : Word) : (s.setSp v).params = s.params := rfl

/-! ### `advance` -/

@[simp] theorem advance_a (n : Nat) : (s.advance n).a = s.a := rfl
@[simp] theorem advance_x (n : Nat) : (s.advance n).x = s.x := rfl
@[simp] theorem advance_y (n : Nat) : (s.advance n).y = s.y := rfl
@[simp] theorem advance_sp (n : Nat) : (s.advance n).sp = s.sp := rfl
@[simp] theorem advance_d (n : Nat) : (s.advance n).d = s.d := rfl
@[simp] theorem advance_dbr (n : Nat) : (s.advance n).dbr = s.dbr := rfl
@[simp] theorem advance_pbr (n : Nat) : (s.advance n).pbr = s.pbr := rfl
@[simp] theorem advance_pc (n : Nat) : (s.advance n).pc = s.pc + BitVec.ofNat 16 n := rfl
@[simp] theorem advance_p (n : Nat) : (s.advance n).p = s.p := rfl
@[simp] theorem advance_run (n : Nat) : (s.advance n).run = s.run := rfl
@[simp] theorem advance_cyc (n : Nat) : (s.advance n).cyc = s.cyc := rfl
@[simp] theorem advance_exitRequest (n : Nat) : (s.advance n).exitRequest = s.exitRequest := rfl
@[simp] theorem advance_nmiPending (n : Nat) : (s.advance n).nmiPending = s.nmiPending := rfl
@[simp] theorem advance_irqLine (n : Nat) : (s.advance n).irqLine = s.irqLine := rfl
@[simp] theorem advance_mem (n : Nat) : (s.advance n).mem = s.mem := rfl
@[simp] theorem advance_bus (n : Nat) : (s.advance n).bus = s.bus := rfl
@[simp] theorem advance_draws (n : Nat) : (s.advance n).draws = s.draws := rfl
@[simp] theorem advance_params (n : Nat) : (s.advance n).params = s.params := rfl

/-! ### `jump` -/

@[simp] theorem jump_a (t : Word) : (s.jump t).a = s.a := rfl
@[simp] theorem jump_x (t : Word) : (s.jump t).x = s.x := rfl
@[simp] theorem jump_y (t : Word) : (s.jump t).y = s.y := rfl
@[simp] theorem jump_sp (t : Word) : (s.jump t).sp = s.sp := rfl
@[simp] theorem jump_d (t : Word) : (s.jump t).d = s.d := rfl
@[simp] theorem jump_dbr (t : Word) : (s.jump t).dbr = s.dbr := rfl
@[simp] theorem jump_pbr (t : Word) : (s.jump t).pbr = s.pbr := rfl
@[simp] theorem jump_pc (t : Word) : (s.jump t).pc = t := rfl
@[simp] theorem jump_p (t : Word) : (s.jump t).p = s.p := rfl
@[simp] theorem jump_run (t : Word) : (s.jump t).run = s.run := rfl
@[simp] theorem jump_cyc (t : Word) : (s.jump t).cyc = s.cyc := rfl
@[simp] theorem jump_exitRequest (t : Word) : (s.jump t).exitRequest = s.exitRequest := rfl
@[simp] theorem jump_nmiPending (t : Word) : (s.jump t).nmiPending = s.nmiPending := rfl
@[simp] theorem jump_irqLine (t : Word) : (s.jump t).irqLine = s.irqLine := rfl
@[simp] theorem jump_mem (t : Word) : (s.jump t).mem = s.mem := rfl
@[simp] theorem jump_bus (t : Word) : (s.jump t).bus = s.bus := rfl
@[simp] theorem jump_draws (t : Word) : (s.jump t).draws = s.draws := rfl
@[simp] theorem jump_params (t : Word) : (s.jump t).params = s.params := rfl

/-! ### `jumpLong` -/

@[simp] theorem jumpLong_a (t : Addr) : (s.jumpLong t).a = s.a := rfl
@[simp] theorem jumpLong_x (t : Addr) : (s.jumpLong t).x = s.x := rfl
@[simp] theorem jumpLong_y (t : Addr) : (s.jumpLong t).y = s.y := rfl
@[simp] theorem jumpLong_sp (t : Addr) : (s.jumpLong t).sp = s.sp := rfl
@[simp] theorem jumpLong_d (t : Addr) : (s.jumpLong t).d = s.d := rfl
@[simp] theorem jumpLong_dbr (t : Addr) : (s.jumpLong t).dbr = s.dbr := rfl
@[simp] theorem jumpLong_pbr (t : Addr) : (s.jumpLong t).pbr = bankOf t := rfl
@[simp] theorem jumpLong_pc (t : Addr) : (s.jumpLong t).pc = offsetOf t := rfl
@[simp] theorem jumpLong_p (t : Addr) : (s.jumpLong t).p = s.p := rfl
@[simp] theorem jumpLong_run (t : Addr) : (s.jumpLong t).run = s.run := rfl
@[simp] theorem jumpLong_cyc (t : Addr) : (s.jumpLong t).cyc = s.cyc := rfl
@[simp] theorem jumpLong_exitRequest (t : Addr) : (s.jumpLong t).exitRequest = s.exitRequest := rfl
@[simp] theorem jumpLong_nmiPending (t : Addr) : (s.jumpLong t).nmiPending = s.nmiPending := rfl
@[simp] theorem jumpLong_irqLine (t : Addr) : (s.jumpLong t).irqLine = s.irqLine := rfl
@[simp] theorem jumpLong_mem (t : Addr) : (s.jumpLong t).mem = s.mem := rfl
@[simp] theorem jumpLong_bus (t : Addr) : (s.jumpLong t).bus = s.bus := rfl
@[simp] theorem jumpLong_draws (t : Addr) : (s.jumpLong t).draws = s.draws := rfl
@[simp] theorem jumpLong_params (t : Addr) : (s.jumpLong t).params = s.params := rfl

/-! ### `push8` -/

@[simp] theorem push8_a (v : Byte) : (s.push8 v).a = s.a := rfl
@[simp] theorem push8_x (v : Byte) : (s.push8 v).x = s.x := rfl
@[simp] theorem push8_y (v : Byte) : (s.push8 v).y = s.y := rfl
@[simp] theorem push8_sp (v : Byte) : (s.push8 v).sp = pinStack s.p.e (s.sp - 1) := rfl
@[simp] theorem push8_d (v : Byte) : (s.push8 v).d = s.d := rfl
@[simp] theorem push8_dbr (v : Byte) : (s.push8 v).dbr = s.dbr := rfl
@[simp] theorem push8_pbr (v : Byte) : (s.push8 v).pbr = s.pbr := rfl
@[simp] theorem push8_pc (v : Byte) : (s.push8 v).pc = s.pc := rfl
@[simp] theorem push8_p (v : Byte) : (s.push8 v).p = s.p := rfl
@[simp] theorem push8_run (v : Byte) : (s.push8 v).run = s.run := rfl
@[simp] theorem push8_cyc (v : Byte) : (s.push8 v).cyc = s.cyc := rfl
@[simp] theorem push8_exitRequest (v : Byte) : (s.push8 v).exitRequest = s.exitRequest := rfl
@[simp] theorem push8_nmiPending (v : Byte) : (s.push8 v).nmiPending = s.nmiPending := rfl
@[simp] theorem push8_irqLine (v : Byte) : (s.push8 v).irqLine = s.irqLine := rfl
@[simp] theorem push8_mem (v : Byte) : (s.push8 v).mem = s.cellsAfter (addrOf 0 s.sp) v := rfl
@[simp] theorem push8_bus (v : Byte) : (s.push8 v).bus = s.record (.write (addrOf 0 s.sp) v) := rfl
@[simp] theorem push8_draws (v : Byte) : (s.push8 v).draws = s.draws := rfl
@[simp] theorem push8_params (v : Byte) : (s.push8 v).params = s.params := rfl

/-! ### `push16` -/

@[simp] theorem push16_a (v : Word) : (s.push16 v).a = s.a := rfl
@[simp] theorem push16_x (v : Word) : (s.push16 v).x = s.x := rfl
@[simp] theorem push16_y (v : Word) : (s.push16 v).y = s.y := rfl
@[simp] theorem push16_d (v : Word) : (s.push16 v).d = s.d := rfl
@[simp] theorem push16_dbr (v : Word) : (s.push16 v).dbr = s.dbr := rfl
@[simp] theorem push16_pbr (v : Word) : (s.push16 v).pbr = s.pbr := rfl
@[simp] theorem push16_pc (v : Word) : (s.push16 v).pc = s.pc := rfl
@[simp] theorem push16_p (v : Word) : (s.push16 v).p = s.p := rfl
@[simp] theorem push16_run (v : Word) : (s.push16 v).run = s.run := rfl
@[simp] theorem push16_cyc (v : Word) : (s.push16 v).cyc = s.cyc := rfl
@[simp] theorem push16_exitRequest (v : Word) : (s.push16 v).exitRequest = s.exitRequest := rfl
@[simp] theorem push16_nmiPending (v : Word) : (s.push16 v).nmiPending = s.nmiPending := rfl
@[simp] theorem push16_irqLine (v : Word) : (s.push16 v).irqLine = s.irqLine := rfl
@[simp] theorem push16_draws (v : Word) : (s.push16 v).draws = s.draws := rfl
@[simp] theorem push16_params (v : Word) : (s.push16 v).params = s.params := rfl

/-! ### `pushAt` -/

@[simp] theorem pushAt_a (w : Width) (v : Word) : (s.pushAt w v).a = s.a := by cases w <;> rfl
@[simp] theorem pushAt_x (w : Width) (v : Word) : (s.pushAt w v).x = s.x := by cases w <;> rfl
@[simp] theorem pushAt_y (w : Width) (v : Word) : (s.pushAt w v).y = s.y := by cases w <;> rfl
@[simp] theorem pushAt_d (w : Width) (v : Word) : (s.pushAt w v).d = s.d := by cases w <;> rfl
@[simp] theorem pushAt_dbr (w : Width) (v : Word) : (s.pushAt w v).dbr = s.dbr := by cases w <;> rfl
@[simp] theorem pushAt_pbr (w : Width) (v : Word) : (s.pushAt w v).pbr = s.pbr := by cases w <;> rfl
@[simp] theorem pushAt_pc (w : Width) (v : Word) : (s.pushAt w v).pc = s.pc := by cases w <;> rfl
@[simp] theorem pushAt_p (w : Width) (v : Word) : (s.pushAt w v).p = s.p := by cases w <;> rfl
@[simp] theorem pushAt_run (w : Width) (v : Word) : (s.pushAt w v).run = s.run := by cases w <;> rfl
@[simp] theorem pushAt_cyc (w : Width) (v : Word) : (s.pushAt w v).cyc = s.cyc := by cases w <;> rfl
@[simp] theorem pushAt_exitRequest (w : Width) (v : Word) : (s.pushAt w v).exitRequest = s.exitRequest := by cases w <;> rfl
@[simp] theorem pushAt_nmiPending (w : Width) (v : Word) : (s.pushAt w v).nmiPending = s.nmiPending := by cases w <;> rfl
@[simp] theorem pushAt_irqLine (w : Width) (v : Word) : (s.pushAt w v).irqLine = s.irqLine := by cases w <;> rfl
@[simp] theorem pushAt_draws (w : Width) (v : Word) : (s.pushAt w v).draws = s.draws := by cases w <;> rfl
@[simp] theorem pushAt_params (w : Width) (v : Word) : (s.pushAt w v).params = s.params := by cases w <;> rfl

/-! ### `popSp` -/

@[simp] theorem popSp_a : s.popSp.a = s.a := rfl
@[simp] theorem popSp_x : s.popSp.x = s.x := rfl
@[simp] theorem popSp_y : s.popSp.y = s.y := rfl
@[simp] theorem popSp_sp : s.popSp.sp = pinStack s.p.e (s.sp + 1) := rfl
@[simp] theorem popSp_d : s.popSp.d = s.d := rfl
@[simp] theorem popSp_dbr : s.popSp.dbr = s.dbr := rfl
@[simp] theorem popSp_pbr : s.popSp.pbr = s.pbr := rfl
@[simp] theorem popSp_pc : s.popSp.pc = s.pc := rfl
@[simp] theorem popSp_p : s.popSp.p = s.p := rfl
@[simp] theorem popSp_run : s.popSp.run = s.run := rfl
@[simp] theorem popSp_cyc : s.popSp.cyc = s.cyc := rfl
@[simp] theorem popSp_exitRequest : s.popSp.exitRequest = s.exitRequest := rfl
@[simp] theorem popSp_nmiPending : s.popSp.nmiPending = s.nmiPending := rfl
@[simp] theorem popSp_irqLine : s.popSp.irqLine = s.irqLine := rfl
@[simp] theorem popSp_mem : s.popSp.mem = s.mem := rfl
@[simp] theorem popSp_bus : s.popSp.bus = s.bus := rfl
@[simp] theorem popSp_draws : s.popSp.draws = s.draws := rfl
@[simp] theorem popSp_params : s.popSp.params = s.params := rfl

/-! ### `pull8` -/

@[simp] theorem pull8_a : s.pull8.2.a = s.a := rfl
@[simp] theorem pull8_x : s.pull8.2.x = s.x := rfl
@[simp] theorem pull8_y : s.pull8.2.y = s.y := rfl
@[simp] theorem pull8_sp : s.pull8.2.sp = pinStack s.p.e (s.sp + 1) := rfl
@[simp] theorem pull8_d : s.pull8.2.d = s.d := rfl
@[simp] theorem pull8_dbr : s.pull8.2.dbr = s.dbr := rfl
@[simp] theorem pull8_pbr : s.pull8.2.pbr = s.pbr := rfl
@[simp] theorem pull8_pc : s.pull8.2.pc = s.pc := rfl
@[simp] theorem pull8_p : s.pull8.2.p = s.p := rfl
@[simp] theorem pull8_run : s.pull8.2.run = s.run := rfl
@[simp] theorem pull8_cyc : s.pull8.2.cyc = s.cyc := rfl
@[simp] theorem pull8_exitRequest : s.pull8.2.exitRequest = s.exitRequest := rfl
@[simp] theorem pull8_nmiPending : s.pull8.2.nmiPending = s.nmiPending := rfl
@[simp] theorem pull8_irqLine : s.pull8.2.irqLine = s.irqLine := rfl
@[simp] theorem pull8_mem : s.pull8.2.mem = s.mem := rfl
@[simp] theorem pull8_draws : s.pull8.2.draws = s.draws := rfl
@[simp] theorem pull8_params : s.pull8.2.params = s.params := rfl

/-! ### `pull16` -/

@[simp] theorem pull16_a : s.pull16.2.a = s.a := rfl
@[simp] theorem pull16_x : s.pull16.2.x = s.x := rfl
@[simp] theorem pull16_y : s.pull16.2.y = s.y := rfl
@[simp] theorem pull16_d : s.pull16.2.d = s.d := rfl
@[simp] theorem pull16_dbr : s.pull16.2.dbr = s.dbr := rfl
@[simp] theorem pull16_pbr : s.pull16.2.pbr = s.pbr := rfl
@[simp] theorem pull16_pc : s.pull16.2.pc = s.pc := rfl
@[simp] theorem pull16_p : s.pull16.2.p = s.p := rfl
@[simp] theorem pull16_run : s.pull16.2.run = s.run := rfl
@[simp] theorem pull16_cyc : s.pull16.2.cyc = s.cyc := rfl
@[simp] theorem pull16_exitRequest : s.pull16.2.exitRequest = s.exitRequest := rfl
@[simp] theorem pull16_nmiPending : s.pull16.2.nmiPending = s.nmiPending := rfl
@[simp] theorem pull16_irqLine : s.pull16.2.irqLine = s.irqLine := rfl
@[simp] theorem pull16_mem : s.pull16.2.mem = s.mem := rfl
@[simp] theorem pull16_draws : s.pull16.2.draws = s.draws := rfl
@[simp] theorem pull16_params : s.pull16.2.params = s.params := rfl

/-! ### `pullAt` -/

@[simp] theorem pullAt_a (w : Width) : (s.pullAt w).2.a = s.a := by cases w <;> rfl
@[simp] theorem pullAt_x (w : Width) : (s.pullAt w).2.x = s.x := by cases w <;> rfl
@[simp] theorem pullAt_y (w : Width) : (s.pullAt w).2.y = s.y := by cases w <;> rfl
@[simp] theorem pullAt_d (w : Width) : (s.pullAt w).2.d = s.d := by cases w <;> rfl
@[simp] theorem pullAt_dbr (w : Width) : (s.pullAt w).2.dbr = s.dbr := by cases w <;> rfl
@[simp] theorem pullAt_pbr (w : Width) : (s.pullAt w).2.pbr = s.pbr := by cases w <;> rfl
@[simp] theorem pullAt_pc (w : Width) : (s.pullAt w).2.pc = s.pc := by cases w <;> rfl
@[simp] theorem pullAt_p (w : Width) : (s.pullAt w).2.p = s.p := by cases w <;> rfl
@[simp] theorem pullAt_run (w : Width) : (s.pullAt w).2.run = s.run := by cases w <;> rfl
@[simp] theorem pullAt_cyc (w : Width) : (s.pullAt w).2.cyc = s.cyc := by cases w <;> rfl
@[simp] theorem pullAt_exitRequest (w : Width) : (s.pullAt w).2.exitRequest = s.exitRequest := by cases w <;> rfl
@[simp] theorem pullAt_nmiPending (w : Width) : (s.pullAt w).2.nmiPending = s.nmiPending := by cases w <;> rfl
@[simp] theorem pullAt_irqLine (w : Width) : (s.pullAt w).2.irqLine = s.irqLine := by cases w <;> rfl
@[simp] theorem pullAt_mem (w : Width) : (s.pullAt w).2.mem = s.mem := by cases w <;> rfl
@[simp] theorem pullAt_draws (w : Width) : (s.pullAt w).2.draws = s.draws := by cases w <;> rfl
@[simp] theorem pullAt_params (w : Width) : (s.pullAt w).2.params = s.params := by cases w <;> rfl

/-! ### `fixWidths` -/

@[simp] theorem fixWidths_a : s.fixWidths.a = s.a := by unfold State.fixWidths; split <;> [rfl; (split <;> rfl)]
@[simp] theorem fixWidths_d : s.fixWidths.d = s.d := by unfold State.fixWidths; split <;> [rfl; (split <;> rfl)]
@[simp] theorem fixWidths_dbr : s.fixWidths.dbr = s.dbr := by unfold State.fixWidths; split <;> [rfl; (split <;> rfl)]
@[simp] theorem fixWidths_pbr : s.fixWidths.pbr = s.pbr := by unfold State.fixWidths; split <;> [rfl; (split <;> rfl)]
@[simp] theorem fixWidths_pc : s.fixWidths.pc = s.pc := by unfold State.fixWidths; split <;> [rfl; (split <;> rfl)]
@[simp] theorem fixWidths_run : s.fixWidths.run = s.run := by unfold State.fixWidths; split <;> [rfl; (split <;> rfl)]
@[simp] theorem fixWidths_cyc : s.fixWidths.cyc = s.cyc := by unfold State.fixWidths; split <;> [rfl; (split <;> rfl)]
@[simp] theorem fixWidths_exitRequest : s.fixWidths.exitRequest = s.exitRequest := by unfold State.fixWidths; split <;> [rfl; (split <;> rfl)]
@[simp] theorem fixWidths_nmiPending : s.fixWidths.nmiPending = s.nmiPending := by unfold State.fixWidths; split <;> [rfl; (split <;> rfl)]
@[simp] theorem fixWidths_irqLine : s.fixWidths.irqLine = s.irqLine := by unfold State.fixWidths; split <;> [rfl; (split <;> rfl)]
@[simp] theorem fixWidths_mem : s.fixWidths.mem = s.mem := by unfold State.fixWidths; split <;> [rfl; (split <;> rfl)]
@[simp] theorem fixWidths_bus : s.fixWidths.bus = s.bus := by unfold State.fixWidths; split <;> [rfl; (split <;> rfl)]
@[simp] theorem fixWidths_draws : s.fixWidths.draws = s.draws := by unfold State.fixWidths; split <;> [rfl; (split <;> rfl)]
@[simp] theorem fixWidths_params : s.fixWidths.params = s.params := by unfold State.fixWidths; split <;> [rfl; (split <;> rfl)]

/-! ### `unpack` -/

@[simp] theorem unpack_a (v : Byte) : (s.unpack v).a = s.a := by simp [State.unpack]
@[simp] theorem unpack_d (v : Byte) : (s.unpack v).d = s.d := by simp [State.unpack]
@[simp] theorem unpack_dbr (v : Byte) : (s.unpack v).dbr = s.dbr := by simp [State.unpack]
@[simp] theorem unpack_pbr (v : Byte) : (s.unpack v).pbr = s.pbr := by simp [State.unpack]
@[simp] theorem unpack_pc (v : Byte) : (s.unpack v).pc = s.pc := by simp [State.unpack]
@[simp] theorem unpack_run (v : Byte) : (s.unpack v).run = s.run := by simp [State.unpack]
@[simp] theorem unpack_cyc (v : Byte) : (s.unpack v).cyc = s.cyc := by simp [State.unpack]
@[simp] theorem unpack_exitRequest (v : Byte) : (s.unpack v).exitRequest = s.exitRequest := by simp [State.unpack]
@[simp] theorem unpack_nmiPending (v : Byte) : (s.unpack v).nmiPending = s.nmiPending := by simp [State.unpack]
@[simp] theorem unpack_irqLine (v : Byte) : (s.unpack v).irqLine = s.irqLine := by simp [State.unpack]
@[simp] theorem unpack_mem (v : Byte) : (s.unpack v).mem = s.mem := by simp [State.unpack]
@[simp] theorem unpack_bus (v : Byte) : (s.unpack v).bus = s.bus := by simp [State.unpack]
@[simp] theorem unpack_draws (v : Byte) : (s.unpack v).draws = s.draws := by simp [State.unpack]
@[simp] theorem unpack_params (v : Byte) : (s.unpack v).params = s.params := by simp [State.unpack]

/-! ### `raiseFault` -/

@[simp] theorem raiseFault_a (k : FaultKind) (o : Word) (op : Byte) : (s.raiseFault k o op).a = s.a := rfl
@[simp] theorem raiseFault_x (k : FaultKind) (o : Word) (op : Byte) : (s.raiseFault k o op).x = s.x := rfl
@[simp] theorem raiseFault_y (k : FaultKind) (o : Word) (op : Byte) : (s.raiseFault k o op).y = s.y := rfl
@[simp] theorem raiseFault_sp (k : FaultKind) (o : Word) (op : Byte) : (s.raiseFault k o op).sp = s.sp := rfl
@[simp] theorem raiseFault_d (k : FaultKind) (o : Word) (op : Byte) : (s.raiseFault k o op).d = s.d := rfl
@[simp] theorem raiseFault_dbr (k : FaultKind) (o : Word) (op : Byte) : (s.raiseFault k o op).dbr = s.dbr := rfl
@[simp] theorem raiseFault_pbr (k : FaultKind) (o : Word) (op : Byte) : (s.raiseFault k o op).pbr = s.pbr := rfl
@[simp] theorem raiseFault_pc (k : FaultKind) (o : Word) (op : Byte) : (s.raiseFault k o op).pc = s.pc := rfl
@[simp] theorem raiseFault_p (k : FaultKind) (o : Word) (op : Byte) : (s.raiseFault k o op).p = s.p := rfl
@[simp] theorem raiseFault_run (k : FaultKind) (o : Word) (op : Byte) : (s.raiseFault k o op).run = .faulted k s.pbr o op := rfl
@[simp] theorem raiseFault_cyc (k : FaultKind) (o : Word) (op : Byte) : (s.raiseFault k o op).cyc = s.cyc := rfl
@[simp] theorem raiseFault_exitRequest (k : FaultKind) (o : Word) (op : Byte) : (s.raiseFault k o op).exitRequest = s.exitRequest := rfl
@[simp] theorem raiseFault_nmiPending (k : FaultKind) (o : Word) (op : Byte) : (s.raiseFault k o op).nmiPending = s.nmiPending := rfl
@[simp] theorem raiseFault_irqLine (k : FaultKind) (o : Word) (op : Byte) : (s.raiseFault k o op).irqLine = s.irqLine := rfl
@[simp] theorem raiseFault_mem (k : FaultKind) (o : Word) (op : Byte) : (s.raiseFault k o op).mem = s.mem := rfl
@[simp] theorem raiseFault_bus (k : FaultKind) (o : Word) (op : Byte) : (s.raiseFault k o op).bus = s.bus := rfl
@[simp] theorem raiseFault_draws (k : FaultKind) (o : Word) (op : Byte) : (s.raiseFault k o op).draws = s.draws := rfl
@[simp] theorem raiseFault_params (k : FaultKind) (o : Word) (op : Byte) : (s.raiseFault k o op).params = s.params := rfl

/-! ### `charge` -/

@[simp] theorem charge_a (op : Byte) : (s.charge op).a = s.a := rfl
@[simp] theorem charge_x (op : Byte) : (s.charge op).x = s.x := rfl
@[simp] theorem charge_y (op : Byte) : (s.charge op).y = s.y := rfl
@[simp] theorem charge_sp (op : Byte) : (s.charge op).sp = s.sp := rfl
@[simp] theorem charge_d (op : Byte) : (s.charge op).d = s.d := rfl
@[simp] theorem charge_dbr (op : Byte) : (s.charge op).dbr = s.dbr := rfl
@[simp] theorem charge_pbr (op : Byte) : (s.charge op).pbr = s.pbr := rfl
@[simp] theorem charge_pc (op : Byte) : (s.charge op).pc = s.pc := rfl
@[simp] theorem charge_p (op : Byte) : (s.charge op).p = s.p := rfl
@[simp] theorem charge_run (op : Byte) : (s.charge op).run = s.run := rfl
@[simp] theorem charge_cyc (op : Byte) : (s.charge op).cyc = s.cycAfter op := rfl
@[simp] theorem charge_exitRequest (op : Byte) : (s.charge op).exitRequest = s.exitRequest := rfl
@[simp] theorem charge_nmiPending (op : Byte) : (s.charge op).nmiPending = s.nmiPending := rfl
@[simp] theorem charge_irqLine (op : Byte) : (s.charge op).irqLine = s.irqLine := rfl
@[simp] theorem charge_mem (op : Byte) : (s.charge op).mem = s.mem := rfl
@[simp] theorem charge_bus (op : Byte) : (s.charge op).bus = s.bus := rfl
@[simp] theorem charge_draws (op : Byte) : (s.charge op).draws = s.drawsAfter := rfl
@[simp] theorem charge_params (op : Byte) : (s.charge op).params = s.params := rfl

/-! ### `performed` -/

@[simp] theorem performed_a (l : List BusEvent) : (Claims.performed s l).a = s.a := by
  unfold Claims.performed; split <;> rfl
@[simp] theorem performed_x (l : List BusEvent) : (Claims.performed s l).x = s.x := by
  unfold Claims.performed; split <;> rfl
@[simp] theorem performed_y (l : List BusEvent) : (Claims.performed s l).y = s.y := by
  unfold Claims.performed; split <;> rfl
@[simp] theorem performed_sp (l : List BusEvent) : (Claims.performed s l).sp = s.sp := by
  unfold Claims.performed; split <;> rfl
@[simp] theorem performed_d (l : List BusEvent) : (Claims.performed s l).d = s.d := by
  unfold Claims.performed; split <;> rfl
@[simp] theorem performed_dbr (l : List BusEvent) : (Claims.performed s l).dbr = s.dbr := by
  unfold Claims.performed; split <;> rfl
@[simp] theorem performed_pbr (l : List BusEvent) : (Claims.performed s l).pbr = s.pbr := by
  unfold Claims.performed; split <;> rfl
@[simp] theorem performed_pc (l : List BusEvent) : (Claims.performed s l).pc = s.pc := by
  unfold Claims.performed; split <;> rfl
@[simp] theorem performed_p (l : List BusEvent) : (Claims.performed s l).p = s.p := by
  unfold Claims.performed; split <;> rfl
@[simp] theorem performed_run (l : List BusEvent) : (Claims.performed s l).run = s.run := by
  unfold Claims.performed; split <;> rfl
@[simp] theorem performed_cyc (l : List BusEvent) : (Claims.performed s l).cyc = s.cyc := by
  unfold Claims.performed; split <;> rfl
@[simp] theorem performed_exitRequest (l : List BusEvent) : (Claims.performed s l).exitRequest = s.exitRequest := by
  unfold Claims.performed; split <;> rfl
@[simp] theorem performed_nmiPending (l : List BusEvent) : (Claims.performed s l).nmiPending = s.nmiPending := by
  unfold Claims.performed; split <;> rfl
@[simp] theorem performed_irqLine (l : List BusEvent) : (Claims.performed s l).irqLine = s.irqLine := by
  unfold Claims.performed; split <;> rfl
@[simp] theorem performed_draws (l : List BusEvent) : (Claims.performed s l).draws = s.draws := by
  unfold Claims.performed; split <;> rfl
@[simp] theorem performed_params (l : List BusEvent) : (Claims.performed s l).params = s.params := by
  unfold Claims.performed; split <;> rfl

/-! ### `fetched` -/

@[simp] theorem fetched_a (n : Nat) : (s.fetched n).a = s.a := by simp [State.fetched]
@[simp] theorem fetched_x (n : Nat) : (s.fetched n).x = s.x := by simp [State.fetched]
@[simp] theorem fetched_y (n : Nat) : (s.fetched n).y = s.y := by simp [State.fetched]
@[simp] theorem fetched_sp (n : Nat) : (s.fetched n).sp = s.sp := by simp [State.fetched]
@[simp] theorem fetched_d (n : Nat) : (s.fetched n).d = s.d := by simp [State.fetched]
@[simp] theorem fetched_dbr (n : Nat) : (s.fetched n).dbr = s.dbr := by simp [State.fetched]
@[simp] theorem fetched_pbr (n : Nat) : (s.fetched n).pbr = s.pbr := by simp [State.fetched]
@[simp] theorem fetched_pc (n : Nat) : (s.fetched n).pc = s.pc := by simp [State.fetched]
@[simp] theorem fetched_p (n : Nat) : (s.fetched n).p = s.p := by simp [State.fetched]
@[simp] theorem fetched_run (n : Nat) : (s.fetched n).run = s.run := by simp [State.fetched]
@[simp] theorem fetched_cyc (n : Nat) : (s.fetched n).cyc = s.cyc := by simp [State.fetched]
@[simp] theorem fetched_exitRequest (n : Nat) : (s.fetched n).exitRequest = s.exitRequest := by simp [State.fetched]
@[simp] theorem fetched_nmiPending (n : Nat) : (s.fetched n).nmiPending = s.nmiPending := by simp [State.fetched]
@[simp] theorem fetched_irqLine (n : Nat) : (s.fetched n).irqLine = s.irqLine := by simp [State.fetched]
@[simp] theorem fetched_mem (n : Nat) : (s.fetched n).mem = s.mem := by simp [State.fetched]
@[simp] theorem fetched_draws (n : Nat) : (s.fetched n).draws = s.draws := by simp [State.fetched]
@[simp] theorem fetched_params (n : Nat) : (s.fetched n).params = s.params := by simp [State.fetched]

/-! ### `replenish` -/

@[simp] theorem replenish_a : s.replenish.a = s.a := rfl
@[simp] theorem replenish_x : s.replenish.x = s.x := rfl
@[simp] theorem replenish_y : s.replenish.y = s.y := rfl
@[simp] theorem replenish_sp : s.replenish.sp = s.sp := rfl
@[simp] theorem replenish_d : s.replenish.d = s.d := rfl
@[simp] theorem replenish_dbr : s.replenish.dbr = s.dbr := rfl
@[simp] theorem replenish_pbr : s.replenish.pbr = s.pbr := rfl
@[simp] theorem replenish_pc : s.replenish.pc = s.pc := rfl
@[simp] theorem replenish_p : s.replenish.p = s.p := rfl
@[simp] theorem replenish_run : s.replenish.run = s.run := rfl
@[simp] theorem replenish_exitRequest : s.replenish.exitRequest = s.exitRequest := rfl
@[simp] theorem replenish_nmiPending : s.replenish.nmiPending = s.nmiPending := rfl
@[simp] theorem replenish_irqLine : s.replenish.irqLine = s.irqLine := rfl
@[simp] theorem replenish_mem : s.replenish.mem = s.mem := rfl
@[simp] theorem replenish_bus : s.replenish.bus = s.bus := rfl
@[simp] theorem replenish_draws : s.replenish.draws = s.draws := rfl
@[simp] theorem replenish_params : s.replenish.params = s.params := rfl

/-! ### `requestExit` -/

@[simp] theorem requestExit_a : s.requestExit.a = s.a := rfl
@[simp] theorem requestExit_x : s.requestExit.x = s.x := rfl
@[simp] theorem requestExit_y : s.requestExit.y = s.y := rfl
@[simp] theorem requestExit_sp : s.requestExit.sp = s.sp := rfl
@[simp] theorem requestExit_d : s.requestExit.d = s.d := rfl
@[simp] theorem requestExit_dbr : s.requestExit.dbr = s.dbr := rfl
@[simp] theorem requestExit_pbr : s.requestExit.pbr = s.pbr := rfl
@[simp] theorem requestExit_pc : s.requestExit.pc = s.pc := rfl
@[simp] theorem requestExit_p : s.requestExit.p = s.p := rfl
@[simp] theorem requestExit_run : s.requestExit.run = s.run := rfl
@[simp] theorem requestExit_cyc : s.requestExit.cyc = s.cyc := rfl
@[simp] theorem requestExit_exitRequest : s.requestExit.exitRequest = true := rfl
@[simp] theorem requestExit_nmiPending : s.requestExit.nmiPending = s.nmiPending := rfl
@[simp] theorem requestExit_irqLine : s.requestExit.irqLine = s.irqLine := rfl
@[simp] theorem requestExit_mem : s.requestExit.mem = s.mem := rfl
@[simp] theorem requestExit_bus : s.requestExit.bus = s.bus := rfl
@[simp] theorem requestExit_draws : s.requestExit.draws = s.draws := rfl
@[simp] theorem requestExit_params : s.requestExit.params = s.params := rfl

/-! ### `raiseNmi` -/

@[simp] theorem raiseNmi_a : s.raiseNmi.a = s.a := rfl
@[simp] theorem raiseNmi_x : s.raiseNmi.x = s.x := rfl
@[simp] theorem raiseNmi_y : s.raiseNmi.y = s.y := rfl
@[simp] theorem raiseNmi_sp : s.raiseNmi.sp = s.sp := rfl
@[simp] theorem raiseNmi_d : s.raiseNmi.d = s.d := rfl
@[simp] theorem raiseNmi_dbr : s.raiseNmi.dbr = s.dbr := rfl
@[simp] theorem raiseNmi_pbr : s.raiseNmi.pbr = s.pbr := rfl
@[simp] theorem raiseNmi_pc : s.raiseNmi.pc = s.pc := rfl
@[simp] theorem raiseNmi_p : s.raiseNmi.p = s.p := rfl
@[simp] theorem raiseNmi_run : s.raiseNmi.run = s.run := rfl
@[simp] theorem raiseNmi_cyc : s.raiseNmi.cyc = s.cyc := rfl
@[simp] theorem raiseNmi_exitRequest : s.raiseNmi.exitRequest = s.exitRequest := rfl
@[simp] theorem raiseNmi_nmiPending : s.raiseNmi.nmiPending = true := rfl
@[simp] theorem raiseNmi_irqLine : s.raiseNmi.irqLine = s.irqLine := rfl
@[simp] theorem raiseNmi_mem : s.raiseNmi.mem = s.mem := rfl
@[simp] theorem raiseNmi_bus : s.raiseNmi.bus = s.bus := rfl
@[simp] theorem raiseNmi_draws : s.raiseNmi.draws = s.draws := rfl
@[simp] theorem raiseNmi_params : s.raiseNmi.params = s.params := rfl

/-! ### `setIrq` -/

@[simp] theorem setIrq_a (b : Bool) : (s.setIrq b).a = s.a := rfl
@[simp] theorem setIrq_x (b : Bool) : (s.setIrq b).x = s.x := rfl
@[simp] theorem setIrq_y (b : Bool) : (s.setIrq b).y = s.y := rfl
@[simp] theorem setIrq_sp (b : Bool) : (s.setIrq b).sp = s.sp := rfl
@[simp] theorem setIrq_d (b : Bool) : (s.setIrq b).d = s.d := rfl
@[simp] theorem setIrq_dbr (b : Bool) : (s.setIrq b).dbr = s.dbr := rfl
@[simp] theorem setIrq_pbr (b : Bool) : (s.setIrq b).pbr = s.pbr := rfl
@[simp] theorem setIrq_pc (b : Bool) : (s.setIrq b).pc = s.pc := rfl
@[simp] theorem setIrq_p (b : Bool) : (s.setIrq b).p = s.p := rfl
@[simp] theorem setIrq_run (b : Bool) : (s.setIrq b).run = s.run := rfl
@[simp] theorem setIrq_cyc (b : Bool) : (s.setIrq b).cyc = s.cyc := rfl
@[simp] theorem setIrq_exitRequest (b : Bool) : (s.setIrq b).exitRequest = s.exitRequest := rfl
@[simp] theorem setIrq_nmiPending (b : Bool) : (s.setIrq b).nmiPending = s.nmiPending := rfl
@[simp] theorem setIrq_irqLine (b : Bool) : (s.setIrq b).irqLine = b := rfl
@[simp] theorem setIrq_mem (b : Bool) : (s.setIrq b).mem = s.mem := rfl
@[simp] theorem setIrq_bus (b : Bool) : (s.setIrq b).bus = s.bus := rfl
@[simp] theorem setIrq_draws (b : Bool) : (s.setIrq b).draws = s.draws := rfl
@[simp] theorem setIrq_params (b : Bool) : (s.setIrq b).params = s.params := rfl

/-! ### `replaceMemory` -/

@[simp] theorem replaceMemory_a : s.replaceMemory.a = s.a := rfl
@[simp] theorem replaceMemory_x : s.replaceMemory.x = s.x := rfl
@[simp] theorem replaceMemory_y : s.replaceMemory.y = s.y := rfl
@[simp] theorem replaceMemory_sp : s.replaceMemory.sp = s.sp := rfl
@[simp] theorem replaceMemory_d : s.replaceMemory.d = s.d := rfl
@[simp] theorem replaceMemory_dbr : s.replaceMemory.dbr = s.dbr := rfl
@[simp] theorem replaceMemory_pbr : s.replaceMemory.pbr = s.pbr := rfl
@[simp] theorem replaceMemory_pc : s.replaceMemory.pc = s.pc := rfl
@[simp] theorem replaceMemory_p : s.replaceMemory.p = s.p := rfl
@[simp] theorem replaceMemory_run : s.replaceMemory.run = s.run := rfl
@[simp] theorem replaceMemory_cyc : s.replaceMemory.cyc = s.cyc := rfl
@[simp] theorem replaceMemory_exitRequest : s.replaceMemory.exitRequest = s.exitRequest := rfl
@[simp] theorem replaceMemory_nmiPending : s.replaceMemory.nmiPending = s.nmiPending := rfl
@[simp] theorem replaceMemory_irqLine : s.replaceMemory.irqLine = s.irqLine := rfl
@[simp] theorem replaceMemory_mem : s.replaceMemory.mem = s.mem := rfl
@[simp] theorem replaceMemory_bus : s.replaceMemory.bus = [] := rfl
@[simp] theorem replaceMemory_draws : s.replaceMemory.draws = s.draws := rfl
@[simp] theorem replaceMemory_params : s.replaceMemory.params = { s.params with memory := .bus } := rfl

/-! ### `busEvent` -/

@[simp] theorem busEvent_a (k : Nat) : (s.busEvent k).a = s.a := rfl
@[simp] theorem busEvent_x (k : Nat) : (s.busEvent k).x = s.x := rfl
@[simp] theorem busEvent_y (k : Nat) : (s.busEvent k).y = s.y := rfl
@[simp] theorem busEvent_sp (k : Nat) : (s.busEvent k).sp = s.sp := rfl
@[simp] theorem busEvent_d (k : Nat) : (s.busEvent k).d = s.d := rfl
@[simp] theorem busEvent_dbr (k : Nat) : (s.busEvent k).dbr = s.dbr := rfl
@[simp] theorem busEvent_pbr (k : Nat) : (s.busEvent k).pbr = s.pbr := rfl
@[simp] theorem busEvent_pc (k : Nat) : (s.busEvent k).pc = s.pc := rfl
@[simp] theorem busEvent_p (k : Nat) : (s.busEvent k).p = s.p := rfl
@[simp] theorem busEvent_run (k : Nat) : (s.busEvent k).run = s.run := rfl
@[simp] theorem busEvent_cyc (k : Nat) : (s.busEvent k).cyc = s.cyc := rfl
@[simp] theorem busEvent_exitRequest (k : Nat) : (s.busEvent k).exitRequest = s.exitRequest := rfl
@[simp] theorem busEvent_nmiPending (k : Nat) : (s.busEvent k).nmiPending = s.nmiPending := rfl
@[simp] theorem busEvent_irqLine (k : Nat) : (s.busEvent k).irqLine = s.irqLine := rfl
@[simp] theorem busEvent_mem (k : Nat) : (s.busEvent k).mem = s.mem := rfl
@[simp] theorem busEvent_bus (k : Nat) : (s.busEvent k).bus = s.record (.outside k) := rfl
@[simp] theorem busEvent_draws (k : Nat) : (s.busEvent k).draws = s.draws := rfl
@[simp] theorem busEvent_params (k : Nat) : (s.busEvent k).params = s.params := rfl

end Sys2Proof.Machine
end

