-- ==== Sys2Proof/Laws/Memory.lean ====
section
/-! SUPPORT. The laws of memory: a read after a write, and that every memory operation keeps the canonical form. -/

namespace Sys2Proof.Machine

/-! ### Reading after writing -/

theorem Memory.read_erase (m : Memory) (a b : Nat) :
    (m.erase a).read b = if b = a then 0 else m.read b := by
  induction m with
  | nil => simp [Memory.erase, Memory.read]
  | cons c rest ih =>
    obtain ⟨k, u⟩ := c
    simp only [Memory.erase, Memory.read]
    by_cases hka : k = a
    · subst hka
      rw [if_pos rfl, ih]
      by_cases hb : b = k
      · simp [hb]
      · simp [hb, Ne.symm hb]
    · rw [if_neg hka]
      simp only [Memory.read, ih]
      by_cases hkb : k = b
      · subst hkb; simp [hka]
      · simp [hkb]

theorem Memory.read_insert (m : Memory) (a : Nat) (v : Byte) (b : Nat) (h : ∀ c ∈ m, c.1 ≠ a) :
    (m.insert a v).read b = if b = a then v else m.read b := by
  induction m with
  | nil =>
    by_cases hb : b = a
    · simp [Memory.insert, Memory.read, hb]
    · simp [Memory.insert, Memory.read, hb, Ne.symm hb]
  | cons c rest ih =>
    obtain ⟨k, u⟩ := c
    have hk : k ≠ a := h (k, u) (by simp)
    have hrest : ∀ c ∈ rest, c.1 ≠ a := fun c hc => h c (by simp [hc])
    simp only [Memory.insert]
    split
    · by_cases hb : b = a
      · simp [Memory.read, hb]
      · simp [Memory.read, hb, Ne.symm hb]
    · simp only [Memory.read, ih hrest]
      by_cases hkb : k = b
      · subst hkb; simp [hk]
      · simp [hkb]

theorem Memory.not_mem_erase (m : Memory) (a : Nat) : ∀ c ∈ m.erase a, c.1 ≠ a := by
  induction m with
  | nil => simp [Memory.erase]
  | cons c rest ih =>
    obtain ⟨k, u⟩ := c
    simp only [Memory.erase]
    split
    · exact ih
    · rintro c hc
      rcases List.mem_cons.mp hc with rfl | hc
      · assumption
      · exact ih c hc

/-- A read after a write: the byte written at its address, every other byte as before. -/
theorem Memory.read_write (m : Memory) (a : Nat) (v : Byte) (b : Nat) :
    (m.write a v).read b = if b = a then v else m.read b := by
  unfold Memory.write
  split
  · rename_i h; subst h; exact Memory.read_erase m a b
  · rw [Memory.read_insert _ _ _ _ (Memory.not_mem_erase m a), Memory.read_erase]
    by_cases hb : b = a <;> simp [hb]

/-! ### Plain RAM and a collaborator -/

/-- Plain RAM does not notice a read. -/
theorem noteRead_of_ram (s : State) (q : Addr) (h : s.params.memory = .ram) : s.noteRead q = s := by
  simp [State.noteRead, State.record, h]

/-- Plain RAM does not notice reads. -/
theorem noteReads_of_ram (s : State) (l : List Addr) (h : s.params.memory = .ram) : s.noteReads l = s := by
  induction l with
  | nil => rfl
  | cons q rest ih => rw [State.noteReads, noteRead_of_ram s q h, ih]

/-- A store in plain RAM writes its cell. -/
theorem store_of_ram (s : State) (q : Addr) (v : Byte) (h : s.params.memory = .ram) :
    s.store q v = { s with mem := s.mem.write q.toNat v } := by
  simp [State.store, State.cellsAfter, State.record, h]

/-- A collaborator has seen a read, and nothing else has happened. -/
theorem noteRead_of_bus (s : State) (q : Addr) (h : s.params.memory = .bus) :
    s.noteRead q = { s with bus := .read q :: s.bus } := by
  simp [State.noteRead, State.record, h]

/-- A collaborator has seen a list of reads, the last one newest. -/
theorem noteReads_of_bus (s : State) (l : List Addr) (h : s.params.memory = .bus) :
    s.noteReads l = { s with bus := (l.map BusEvent.read).reverse ++ s.bus } := by
  induction l generalizing s with
  | nil => rfl
  | cons q rest ih => rw [State.noteReads, ih _ (by simpa using h), noteRead_of_bus s q h]; simp

/-- A collaborator has seen a store, and nothing else has happened. -/
theorem store_of_bus (s : State) (q : Addr) (v : Byte) (h : s.params.memory = .bus) :
    s.store q v = { s with bus := .write q v :: s.bus } := by
  simp [State.store, State.cellsAfter, State.record, h]

/-- Reads change the history only. -/
theorem noteReads_eq (s : State) (l : List Addr) : s.noteReads l = { s with bus := (s.noteReads l).bus } := by
  induction l generalizing s with
  | nil => rfl
  | cons q rest ih => rw [State.noteReads, ih]; rfl

theorem noteReads_append (s : State) (l l' : List Addr) :
    s.noteReads (l ++ l') = (s.noteReads l).noteReads l' := by
  induction l generalizing s with
  | nil => rfl
  | cons q rest ih => exact ih _

/-! ### Accesses performed -/

@[simp] theorem performed_nil (s : State) : Claims.performed s [] = s := by
  unfold Claims.performed; split <;> rfl

/-- Accesses in two parts are performed one part after the other. -/
theorem performed_append (s : State) (l l' : List BusEvent) :
    Claims.performed s (l ++ l') = Claims.performed (Claims.performed s l) l' := by
  cases h : s.params.memory <;> simp [Claims.performed, h]

/-- A read is the access it is. -/
theorem noteRead_eq_performed (s : State) (q : Addr) : s.noteRead q = Claims.performed s [.read q] := by
  cases h : s.params.memory <;> simp [State.noteRead, State.record, Claims.performed, Claims.cellsAfter, h]

/-- A store is the access it is. -/
theorem store_eq_performed (s : State) (q : Addr) (v : Byte) :
    s.store q v = Claims.performed s [.write q v] := by
  cases h : s.params.memory <;>
    simp [State.store, State.cellsAfter, State.record, Claims.performed, Claims.cellsAfter, h]

/-- Reads are the accesses they are. -/
theorem noteReads_eq_performed (s : State) (l : List Addr) :
    s.noteReads l = Claims.performed s (l.map BusEvent.read) := by
  induction l generalizing s with
  | nil => simp [State.noteReads]
  | cons q rest ih => rw [State.noteReads, ih, noteRead_eq_performed, ← performed_append]; rfl

/-- Accesses change the cells and the history only. -/
theorem performed_eq (s : State) (l : List BusEvent) :
    Claims.performed s l =
      { s with mem := (Claims.performed s l).mem, bus := (Claims.performed s l).bus } := by
  unfold Claims.performed; split <;> rfl

/-- What accesses make of memory depends on memory, its history and its kind only. -/
theorem performed_congr {s t : State} (h : s.mem = t.mem) (hb : s.bus = t.bus)
    (hp : s.params.memory = t.params.memory) (l : List BusEvent) :
    (Claims.performed s l).mem = (Claims.performed t l).mem ∧
      (Claims.performed s l).bus = (Claims.performed t l).bus := by
  cases hm : t.params.memory <;> simp [Claims.performed, h, hb, hp, hm]

/-- A read after a store in plain RAM. -/
theorem load_store (s : State) (q : Addr) (v : Byte) (r : Addr) (h : s.params.memory = .ram) :
    (s.store q v).load r = if r = q then v else s.load r := by
  simp [store_of_ram s q v h, State.load, h, Memory.read_write, BitVec.toNat_inj]

theorem load_store_same (s : State) (q : Addr) (v : Byte) (h : s.params.memory = .ram) :
    (s.store q v).load q = v := by
  simp [load_store, h]

theorem load_store_other (s : State) (q r : Addr) (v : Byte) (h : s.params.memory = .ram) (hq : r ≠ q) :
    (s.store q v).load r = s.load r := by simp [load_store, h, hq]

/-- Two states with the same memory, history and kind of memory load the same bytes. -/
theorem load_congr {s t : State} (h : s.mem = t.mem) (hb : s.bus = t.bus)
    (hp : s.params.memory = t.params.memory) (q : Addr) : s.load q = t.load q := by
  simp [State.load, h, hb, hp]

/-! ### The canonical form -/

theorem Memory.wfFrom_mono {lo lo' : Nat} {m : Memory} (h : Memory.wfFrom lo' m = true) (hl : lo ≤ lo') :
    Memory.wfFrom lo m = true := by
  cases m with
  | nil => rfl
  | cons c rest =>
    obtain ⟨k, u⟩ := c
    simp only [Memory.wfFrom, Bool.and_eq_true, decide_eq_true_eq] at h ⊢
    exact ⟨⟨⟨by omega, h.1.1.2⟩, h.1.2⟩, h.2⟩

theorem Memory.wfFrom_erase (m : Memory) (a lo : Nat) (h : Memory.wfFrom lo m = true) :
    Memory.wfFrom lo (m.erase a) = true := by
  induction m generalizing lo with
  | nil => rfl
  | cons c rest ih =>
    obtain ⟨k, u⟩ := c
    simp only [Memory.wfFrom, Bool.and_eq_true, decide_eq_true_eq] at h
    simp only [Memory.erase]
    split
    · exact Memory.wfFrom_mono (ih _ h.2) (by omega)
    · simp only [Memory.wfFrom, Bool.and_eq_true, decide_eq_true_eq]
      exact ⟨h.1, ih _ h.2⟩

theorem Memory.wfFrom_insert (m : Memory) (a lo : Nat) (v : Byte) (h : Memory.wfFrom lo m = true)
    (hm : ∀ c ∈ m, c.1 ≠ a) (hlo : lo ≤ a) (ha : a < 2 ^ 24) (hv : v ≠ 0) :
    Memory.wfFrom lo (m.insert a v) = true := by
  induction m generalizing lo with
  | nil =>
    simp only [Memory.insert, Memory.wfFrom, Bool.and_eq_true, decide_eq_true_eq]
    exact ⟨⟨⟨hlo, ha⟩, hv⟩, trivial⟩
  | cons c rest ih =>
    obtain ⟨k, u⟩ := c
    simp only [Memory.wfFrom, Bool.and_eq_true, decide_eq_true_eq] at h
    have hk : k ≠ a := hm (k, u) (by simp)
    simp only [Memory.insert]
    split
    · simp only [Memory.wfFrom, Bool.and_eq_true, decide_eq_true_eq]
      exact ⟨⟨⟨hlo, ha⟩, hv⟩, ⟨⟨by omega, h.1.1.2⟩, h.1.2⟩, h.2⟩
    · simp only [Memory.wfFrom, Bool.and_eq_true, decide_eq_true_eq]
      exact ⟨h.1, ih _ h.2 (fun c hc => hm c (by simp [hc])) (by omega)⟩

/-- A write below 2^24 keeps the canonical form. -/
theorem Memory.wf_write (m : Memory) (a : Nat) (v : Byte) (h : m.wf = true) (ha : a < 2 ^ 24) :
    (m.write a v).wf = true := by
  unfold Memory.write
  split
  · exact Memory.wfFrom_erase m a 0 h
  · exact Memory.wfFrom_insert _ a 0 v (Memory.wfFrom_erase m a 0 h) (Memory.not_mem_erase m a)
      (by omega) ha (by assumption)

/-- Every store keeps the canonical form. -/
theorem wf_store (s : State) (q : Addr) (v : Byte) (h : s.mem.wf = true) : (s.store q v).mem.wf = true := by
  simp only [store_mem, State.cellsAfter]
  split
  · exact Memory.wf_write _ _ _ h q.isLt
  · exact h

theorem wf_writeAt (s : State) (w : Width) (ea : Ea) (v : Word) (h : s.mem.wf = true) :
    (s.writeAt w ea v).mem.wf = true := by
  cases w
  · exact wf_store _ _ _ h
  · exact wf_store _ _ _ (wf_store _ _ _ h)

theorem wf_push8 (s : State) (v : Byte) (h : s.mem.wf = true) : (s.push8 v).mem.wf = true :=
  wf_store _ _ _ h

theorem wf_push16 (s : State) (v : Word) (h : s.mem.wf = true) : (s.push16 v).mem.wf = true :=
  wf_push8 _ _ (wf_push8 _ _ h)

theorem wf_pushAt (s : State) (w : Width) (v : Word) (h : s.mem.wf = true) : (s.pushAt w v).mem.wf = true := by
  cases w
  · exact wf_push8 _ _ h
  · exact wf_push16 _ _ h

/-- The memory of the reset state has the canonical form. -/
theorem reset_mem_wf : State.reset.mem.wf = true := rfl

end Sys2Proof.Machine
end

