-- ==== Sys2Proof/Laws/Ops.lean ====
section
/-! SUPPORT. What each shared operation does, said once: operands in memory, the stack, the status byte, trap entry and return. A
later proof cites these lemmas and does not unfold the operations. -/

namespace Sys2Proof.Machine

variable (s : State)

/-! ### Operands in memory -/

/-- Writing an operand is its stores, low byte first. -/
theorem writeAt_eq_performed (w : Width) (ea : Ea) (v : Word) :
    s.writeAt w ea v = Claims.performed s
      (match w with
        | .w8 => [.write ea.lo (loByte v)]
        | .w16 => [.write ea.lo (loByte v), .write ea.hi (hiByte v)]) := by
  cases w
  · exact store_eq_performed s _ _
  · exact (store_eq_performed _ _ _).trans
      (by rw [store_eq_performed s, ← performed_append]; rfl)

/-- Every byte after an operand is written: at width 16 the high byte at `hi`, the low byte at `lo`, the rest as before. -/
theorem load_writeAt (w : Width) (ea : Ea) (v : Word) (q : Addr) (h : s.params.memory = .ram) :
    (s.writeAt w ea v).load q =
      if w = .w16 ∧ q = ea.hi then hiByte v else if q = ea.lo then loByte v else s.load q := by
  cases w
  · simp [State.writeAt, load_store, h]
  · simp [State.writeAt, load_store, h]

/-- The second byte of an operand is not at the address of the first (R167). -/
theorem ea_hi_ne_lo (o : MemOperand) (op : Byte) : (o.ea op s).hi ≠ (o.ea op s).lo := by
  cases o <;> first | exact inbankNext_ne _ | exact next24_ne _

/-- Resolution depends on PC, flags other than e and x, A and the run state in no way: equal registers, memory and history
give the same pair. -/
theorem ea_congr (o : MemOperand) (op : Byte) {t : State} (hx : t.x = s.x) (hy : t.y = s.y)
    (hsp : t.sp = s.sp) (hd : t.d = s.d) (hdbr : t.dbr = s.dbr) (he : t.p.e = s.p.e) (hpx : t.p.x = s.p.x)
    (hmem : t.mem = s.mem) (hbus : t.bus = s.bus) (hpar : t.params = s.params) : o.ea op t = o.ea op s := by
  cases o <;>
    simp [MemOperand.ea, MemOperand.ea0, MemOperand.next, State.directAddr, State.pointer16,
      State.pointer24, State.load, State.noteRead, State.record, State.idxX, State.idxY, State.stackAddr, *]

/-! ### The stack -/

theorem pinStack_native (v : Word) : pinStack false v = v := rfl

theorem pinStack_emulation (v : Word) : pinStack true v = wordOf 0x01 (loByte v) := rfl

@[simp] theorem loByte_pinStack (e : Bool) (v : Word) : loByte (pinStack e v) = loByte v := by
  cases e <;> simp [pinStack]

@[simp] theorem hiByte_pinStack_emulation (v : Word) : hiByte (pinStack true v) = 0x01 := by simp [pinStack]

/-- A push is its store, with SP one below. -/
theorem push8_eq_performed (v : Byte) :
    s.push8 v =
      { Claims.performed s [.write (addrOf 0 s.sp) v] with sp := pinStack s.p.e (s.sp - 1) } := by
  rw [State.push8, store_eq_performed, State.setSp]; simp

/-- A pull is the read at SP plus one, and SP is there. -/
theorem pull8_eq_performed :
    s.pull8 = (s.load (addrOf 0 (pinStack s.p.e (s.sp + 1))),
      { Claims.performed s [.read (addrOf 0 (pinStack s.p.e (s.sp + 1)))] with sp := pinStack s.p.e (s.sp + 1) }) := by
  rw [← noteRead_eq_performed]; rfl

/-- Every byte after one push. -/
theorem load_push8 (v : Byte) (q : Addr) (h : s.params.memory = .ram) :
    (s.push8 v).load q = if q = addrOf 0 s.sp then v else s.load q := by
  rw [show (s.push8 v).load q = (s.store (addrOf 0 s.sp) v).load q from rfl, load_store _ _ _ _ h]

/-- Every byte after a 16-bit push: the high byte at SP, the low byte below it. -/
theorem load_push16 (v : Word) (q : Addr) (h : s.params.memory = .ram) :
    (s.push16 v).load q =
      if q = addrOf 0 (pinStack s.p.e (s.sp - 1)) then loByte v
      else if q = addrOf 0 s.sp then hiByte v else s.load q := by
  simp [State.push16, load_push8, h]

@[simp] theorem push16_sp (v : Word) :
    (s.push16 v).sp = pinStack s.p.e (pinStack s.p.e (s.sp - 1) - 1) := rfl

@[simp] theorem pull8_value : s.pull8.1 = s.load (addrOf 0 (pinStack s.p.e (s.sp + 1))) := rfl

/-- The byte of the first pull, and after it that of the second. -/
@[simp] theorem pull16_value :
    s.pull16.1 = wordOf
      ((s.noteRead (addrOf 0 (pinStack s.p.e (s.sp + 1)))).load
        (addrOf 0 (pinStack s.p.e (pinStack s.p.e (s.sp + 1) + 1))))
      (s.load (addrOf 0 (pinStack s.p.e (s.sp + 1)))) := rfl

@[simp] theorem pull16_sp : s.pull16.2.sp = pinStack s.p.e (pinStack s.p.e (s.sp + 1) + 1) := rfl

/-! ### The status byte -/

/-- R47 in closed form. -/
theorem fixWidths_eq :
    s.fixWidths =
      { s with p := { s.p with m := s.p.e || s.p.m, x := s.p.e || s.p.x },
               x := if s.p.e || s.p.x then zextByte (loByte s.x) else s.x,
               y := if s.p.e || s.p.x then zextByte (loByte s.y) else s.y,
               sp := pinStack s.p.e s.sp } := by
  obtain ⟨a, x, y, sp, d, dbr, pbr, pc, ⟨c, z, n, v, pd, i, b, e, m, px⟩, run, cyc, er, np, il, mem, bus, draws, par⟩ := s
  cases e <;> cases px <;> rfl

/-- After R47 the emulation invariant R49 holds. -/
theorem fixWidths_emulationOk : s.fixWidths.emulationOk = true := by
  rw [fixWidths_eq]
  simp only [State.emulationOk]
  cases h : s.p.e <;> simp [pinStack]

/-- After R47 the index invariant R50 holds. -/
theorem fixWidths_indexOk : s.fixWidths.indexOk = true := by
  rw [fixWidths_eq]
  simp only [State.indexOk]
  cases h : s.p.e <;> cases h' : s.p.x <;> simp

/-- In a state that keeps R49 and R50, R47 changes nothing. -/
theorem fixWidths_of_ok (h1 : s.emulationOk = true) (h2 : s.indexOk = true) : s.fixWidths = s := by
  obtain ⟨a, x, y, sp, d, dbr, pbr, pc, ⟨c, z, n, v, pd, i, b, e, m, px⟩, run, cyc, er, np, il, mem, bus, draws, par⟩ := s
  have zl : ∀ w : Word, hiByte w = 0 → zextByte (loByte w) = w := by
    intro w hw
    apply BitVec.eq_of_toNat_eq
    have := congrArg BitVec.toNat hw
    rw [hiByte_toNat] at this
    simp only [zextByte_toNat, loByte_toNat]
    simp at this; omega
  have sl : ∀ w : Word, hiByte w = 0x01 → wordOf 0x01 (loByte w) = w := by
    intro w hw
    have := wordOf_hi_lo w
    rwa [hw] at this
  cases e <;> cases px <;> cases m <;>
    simp_all [fixWidths_eq, State.emulationOk, State.indexOk, pinStack]

@[simp] theorem unpack_p (v : Byte) :
    (s.unpack v).p = { s.p.unpack v with
      m := s.p.e || (s.p.unpack v).m, x := s.p.e || (s.p.unpack v).x } := by
  simp [State.unpack, fixWidths_eq, Flags.unpack]

/-! ### Trap entry and return -/

/-- The fields that pushing a frame leaves alone, in one equation: only SP, memory with its history
and, in emulation mode, b. -/
theorem pushFrame_eq (kind : TrapKind) :
    s.pushFrame kind =
      { s with sp := (s.pushFrame kind).sp, mem := (s.pushFrame kind).mem, bus := (s.pushFrame kind).bus,
               p := { s.p with b := if s.p.e then kind.isSoftware else s.p.b } } := by
  obtain ⟨a, x, y, sp, d, dbr, pbr, pc, ⟨c, z, n, v, pd, i, b, e, m, px⟩, run, cyc, er, np, il, mem, bus, draws, par⟩ := s
  cases e <;> rfl

/-- Trap entry in one equation (R440): the frame, then i set, d cleared, PBR zero and PC from the vector. -/
theorem enter_eq (kind : TrapKind) :
    s.enter kind =
      { s with sp := (s.pushFrame kind).sp, mem := (s.pushFrame kind).mem,
               bus := ((s.pushFrame kind).noteReads
                 (pointerBytes16 (addrOf 0 (vectorAddr s.params.vectors kind s.p.e)))).bus,
               p := { s.p with b := if s.p.e then kind.isSoftware else s.p.b, i := true, d := false },
               pbr := 0,
               pc := (s.pushFrame kind).pointer16 (addrOf 0 (vectorAddr s.params.vectors kind s.p.e)) } := by
  obtain ⟨a, x, y, sp, d, dbr, pbr, pc, ⟨c, z, n, v, pd, i, b, e, m, px⟩, run, cyc, er, np, il, mem, bus, draws, par⟩ := s
  cases e <;> (simp only [State.enter]; rw [noteReads_eq]; rfl)

theorem wf_pushFrame (kind : TrapKind) (h : s.mem.wf = true) : (s.pushFrame kind).mem.wf = true := by
  unfold State.pushFrame
  apply wf_push8
  cases he : s.p.e <;> simp
  · exact wf_push16 _ _ (wf_push8 _ _ h)
  · exact wf_push16 _ _ h

theorem wf_enter (kind : TrapKind) (h : s.mem.wf = true) : (s.enter kind).mem.wf = true := by
  rw [enter_eq]; exact wf_pushFrame s kind h

/-- The return from a trap leaves the cells of memory, A, D, DBR, the run state, the inputs and the parameters alone. -/
theorem returnFromTrap_frame :
    s.returnFromTrap.mem = s.mem ∧ s.returnFromTrap.a = s.a ∧ s.returnFromTrap.d = s.d ∧
      s.returnFromTrap.dbr = s.dbr ∧ s.returnFromTrap.run = s.run ∧ s.returnFromTrap.cyc = s.cyc ∧
      s.returnFromTrap.exitRequest = s.exitRequest ∧ s.returnFromTrap.nmiPending = s.nmiPending ∧
      s.returnFromTrap.irqLine = s.irqLine ∧ s.returnFromTrap.draws = s.draws ∧ s.returnFromTrap.params = s.params := by
  simp only [State.returnFromTrap]
  split <;> simp

end Sys2Proof.Machine
end

