-- ==== Sys2Proof/Laws/Loop.lean ====
section
/-! SUPPORT. What the loop around an instruction does: fetching, the poll, the end of a step, one step. -/

namespace Sys2Proof.Machine

variable (s : State)

/-- Every byte list of four or more bytes decodes, and to what `decodeBytes` gives. -/
theorem decode_four (m x : Bool) (op b1 b2 b3 : Byte) (rest : List Byte) :
    decode m x (op :: b1 :: b2 :: b3 :: rest) =
      .ok (decodeBytes m x op b1 b2 b3, (b1 :: b2 :: b3 :: rest).drop ((opEntry op).operandBytes m x)) := by
  have h : (opEntry op).operandBytes m x ≤ 3 := by
    cases opEntry op <;> simp only [OpEntry.operandBytes] <;> (try split) <;> omega
  simp only [decode, List.getD_cons_zero, List.getD_cons_succ]
  rw [if_neg (by simp only [List.length_cons]; omega)]

/-- The fetched bytes decode to the fetched instruction. -/
theorem decode_codeBytes :
    ∃ rest, decode s.p.m s.p.x s.codeBytes = .ok (s.fetch, rest) :=
  ⟨_, decode_four s.p.m s.p.x _ _ _ _ []⟩

/-- A poll with no input raised does nothing (R436). -/
theorem poll_of_not_requested (h : s.requested = false) : s.poll = s := by
  simp only [State.requested, Bool.or_eq_false_iff] at h
  simp [State.poll, h.1.1, h.1.2, h.2]

/-- Where timing is not fixed nothing is replenished (R437). -/
theorem replenish_of_draw (h : s.params.timing = .draw) : s.replenish = s := by
  simp [State.replenish, h]

/-- Where timing is given, the budget is replenished when it is used up (R431). -/
theorem replenish_of_budget {cost : CostRule} {poll : Nat} (h : s.params.timing = .budget cost poll) :
    s.replenish = { s with cyc := if s.cyc ≤ 0 then s.cyc + pollPeriod s.params else s.cyc } := by
  simp [State.replenish, h]

/-- The end of a step in the form of R431. -/
theorem endOfStep_eq :
    s.endOfStep =
      match s.run with
      | .faulted _ _ _ _ => s
      | _ => if s.pollDue then s.replenish.poll else s.replenish := by
  have key : (if s.requested && s.pollDue then s.replenish.poll else s.replenish) =
      if s.pollDue then s.replenish.poll else s.replenish := by
    cases hq : s.requested
    · simp [poll_of_not_requested s.replenish hq]
    · rfl
  have lift : ∀ (r : RunState) (t u : State), t = u →
      (match r with | .faulted _ _ _ _ => s | _ => t) = (match r with | .faulted _ _ _ _ => s | _ => u) := by
    rintro r t _ rfl; rfl
  exact lift s.run _ _ key

/-- An instruction's cost is positive (R435). -/
theorem cost_pos (op : Byte) : 0 < s.cost op := by
  unfold State.cost
  split <;> omega

/-- The poll period is positive (R435). -/
theorem pollPeriod_pos (par : Params) : 0 < pollPeriod par := by
  unfold pollPeriod
  split <;> omega

/-- The outcomes of a poll (R436). -/
theorem poll_cases :
    s.poll = { s with run := .terminated } ∨
    s.poll = ({ s with nmiPending := false, run := .running } : State).enter .nmi ∨
    s.poll = ({ s with run := .running } : State).enter .irq ∨
    s.poll = { s with run := .running } ∨ s.poll = s := by
  unfold State.poll
  split
  · simp
  · split
    · simp
    · split
      · simp
      · split <;> simp

theorem wf_poll (h : s.mem.wf = true) : s.poll.mem.wf = true := by
  rcases poll_cases s with e | e | e | e | e <;> rw [e]
  · exact h
  · exact wf_enter _ _ h
  · exact wf_enter _ _ h
  · exact h
  · exact h

/-- In the run state Running a step is a Running step. -/
theorem step_of_running (h : s.run = .running) : step s = stepRunning s := by simp [step, h]

end Sys2Proof.Machine
end

