-- ==== Sys2Proof/Laws/PerInstr.lean ====
section
/-! SUPPORT. Statements about every instruction, one lemma per constructor. -/

namespace Sys2Proof.Laws.EncodedLength

/-- The encoding of an instruction has the length that R123 gives its tag at m and x, from 1 to 4 bytes (R111), and
starts with its opcode. -/
def Statement (i : Instr) : Prop :=
  ∀ m x : Bool, (encode m x i).length = i.length m x ∧ 1 ≤ i.length m x ∧ i.length m x ≤ 4 ∧
    (encode m x i).head? = some i.opcode

theorem brk (sig : Byte) : Statement (.brk sig) := by
  rintro (_ | _) (_ | _) <;> exact ⟨rfl, Nat.le_add_right _ _, Nat.le_of_ble_eq_true rfl, rfl⟩
theorem oraDpXInd (ll : Byte) : Statement (.oraDpXInd ll) := by
  rintro (_ | _) (_ | _) <;> exact ⟨rfl, Nat.le_add_right _ _, Nat.le_of_ble_eq_true rfl, rfl⟩
theorem cop (sig : Byte) : Statement (.cop sig) := by
  rintro (_ | _) (_ | _) <;> exact ⟨rfl, Nat.le_add_right _ _, Nat.le_of_ble_eq_true rfl, rfl⟩
theorem oraSr (ll : Byte) : Statement (.oraSr ll) := by
  rintro (_ | _) (_ | _) <;> exact ⟨rfl, Nat.le_add_right _ _, Nat.le_of_ble_eq_true rfl, rfl⟩
theorem tsbDp (ll : Byte) : Statement (.tsbDp ll) := by
  rintro (_ | _) (_ | _) <;> exact ⟨rfl, Nat.le_add_right _ _, Nat.le_of_ble_eq_true rfl, rfl⟩
theorem oraDp (ll : Byte) : Statement (.oraDp ll) := by
  rintro (_ | _) (_ | _) <;> exact ⟨rfl, Nat.le_add_right _ _, Nat.le_of_ble_eq_true rfl, rfl⟩
theorem aslDp (ll : Byte) : Statement (.aslDp ll) := by
  rintro (_ | _) (_ | _) <;> exact ⟨rfl, Nat.le_add_right _ _, Nat.le_of_ble_eq_true rfl, rfl⟩
theorem oraDpIndL (ll : Byte) : Statement (.oraDpIndL ll) := by
  rintro (_ | _) (_ | _) <;> exact ⟨rfl, Nat.le_add_right _ _, Nat.le_of_ble_eq_true rfl, rfl⟩
theorem php : Statement (.php) := by
  rintro (_ | _) (_ | _) <;> exact ⟨rfl, Nat.le_add_right _ _, Nat.le_of_ble_eq_true rfl, rfl⟩
theorem oraImm (imm : Word) : Statement (.oraImm imm) := by
  rintro (_ | _) (_ | _) <;> exact ⟨rfl, Nat.le_add_right _ _, Nat.le_of_ble_eq_true rfl, rfl⟩
theorem aslAcc : Statement (.aslAcc) := by
  rintro (_ | _) (_ | _) <;> exact ⟨rfl, Nat.le_add_right _ _, Nat.le_of_ble_eq_true rfl, rfl⟩
theorem phd : Statement (.phd) := by
  rintro (_ | _) (_ | _) <;> exact ⟨rfl, Nat.le_add_right _ _, Nat.le_of_ble_eq_true rfl, rfl⟩
theorem tsbAbs (hhll : Word) : Statement (.tsbAbs hhll) := by
  rintro (_ | _) (_ | _) <;> exact ⟨rfl, Nat.le_add_right _ _, Nat.le_of_ble_eq_true rfl, rfl⟩
theorem oraAbs (hhll : Word) : Statement (.oraAbs hhll) := by
  rintro (_ | _) (_ | _) <;> exact ⟨rfl, Nat.le_add_right _ _, Nat.le_of_ble_eq_true rfl, rfl⟩
theorem aslAbs (hhll : Word) : Statement (.aslAbs hhll) := by
  rintro (_ | _) (_ | _) <;> exact ⟨rfl, Nat.le_add_right _ _, Nat.le_of_ble_eq_true rfl, rfl⟩
theorem oraLong (addr : Addr) : Statement (.oraLong addr) := by
  rintro (_ | _) (_ | _) <;> exact ⟨rfl, Nat.le_add_right _ _, Nat.le_of_ble_eq_true rfl, rfl⟩
theorem bpl (d : Byte) : Statement (.bpl d) := by
  rintro (_ | _) (_ | _) <;> exact ⟨rfl, Nat.le_add_right _ _, Nat.le_of_ble_eq_true rfl, rfl⟩
theorem oraDpIndY (ll : Byte) : Statement (.oraDpIndY ll) := by
  rintro (_ | _) (_ | _) <;> exact ⟨rfl, Nat.le_add_right _ _, Nat.le_of_ble_eq_true rfl, rfl⟩
theorem oraDpInd (ll : Byte) : Statement (.oraDpInd ll) := by
  rintro (_ | _) (_ | _) <;> exact ⟨rfl, Nat.le_add_right _ _, Nat.le_of_ble_eq_true rfl, rfl⟩
theorem oraSrIndY (ll : Byte) : Statement (.oraSrIndY ll) := by
  rintro (_ | _) (_ | _) <;> exact ⟨rfl, Nat.le_add_right _ _, Nat.le_of_ble_eq_true rfl, rfl⟩
theorem trbDp (ll : Byte) : Statement (.trbDp ll) := by
  rintro (_ | _) (_ | _) <;> exact ⟨rfl, Nat.le_add_right _ _, Nat.le_of_ble_eq_true rfl, rfl⟩
theorem oraDpX (ll : Byte) : Statement (.oraDpX ll) := by
  rintro (_ | _) (_ | _) <;> exact ⟨rfl, Nat.le_add_right _ _, Nat.le_of_ble_eq_true rfl, rfl⟩
theorem aslDpX (ll : Byte) : Statement (.aslDpX ll) := by
  rintro (_ | _) (_ | _) <;> exact ⟨rfl, Nat.le_add_right _ _, Nat.le_of_ble_eq_true rfl, rfl⟩
theorem oraDpIndLY (ll : Byte) : Statement (.oraDpIndLY ll) := by
  rintro (_ | _) (_ | _) <;> exact ⟨rfl, Nat.le_add_right _ _, Nat.le_of_ble_eq_true rfl, rfl⟩
theorem clc : Statement (.clc) := by
  rintro (_ | _) (_ | _) <;> exact ⟨rfl, Nat.le_add_right _ _, Nat.le_of_ble_eq_true rfl, rfl⟩
theorem oraAbsY (hhll : Word) : Statement (.oraAbsY hhll) := by
  rintro (_ | _) (_ | _) <;> exact ⟨rfl, Nat.le_add_right _ _, Nat.le_of_ble_eq_true rfl, rfl⟩
theorem incAcc : Statement (.incAcc) := by
  rintro (_ | _) (_ | _) <;> exact ⟨rfl, Nat.le_add_right _ _, Nat.le_of_ble_eq_true rfl, rfl⟩
theorem tcs : Statement (.tcs) := by
  rintro (_ | _) (_ | _) <;> exact ⟨rfl, Nat.le_add_right _ _, Nat.le_of_ble_eq_true rfl, rfl⟩
theorem trbAbs (hhll : Word) : Statement (.trbAbs hhll) := by
  rintro (_ | _) (_ | _) <;> exact ⟨rfl, Nat.le_add_right _ _, Nat.le_of_ble_eq_true rfl, rfl⟩
theorem oraAbsX (hhll : Word) : Statement (.oraAbsX hhll) := by
  rintro (_ | _) (_ | _) <;> exact ⟨rfl, Nat.le_add_right _ _, Nat.le_of_ble_eq_true rfl, rfl⟩
theorem aslAbsX (hhll : Word) : Statement (.aslAbsX hhll) := by
  rintro (_ | _) (_ | _) <;> exact ⟨rfl, Nat.le_add_right _ _, Nat.le_of_ble_eq_true rfl, rfl⟩
theorem oraLongX (addr : Addr) : Statement (.oraLongX addr) := by
  rintro (_ | _) (_ | _) <;> exact ⟨rfl, Nat.le_add_right _ _, Nat.le_of_ble_eq_true rfl, rfl⟩
theorem jsrAbs (hhll : Word) : Statement (.jsrAbs hhll) := by
  rintro (_ | _) (_ | _) <;> exact ⟨rfl, Nat.le_add_right _ _, Nat.le_of_ble_eq_true rfl, rfl⟩
theorem andDpXInd (ll : Byte) : Statement (.andDpXInd ll) := by
  rintro (_ | _) (_ | _) <;> exact ⟨rfl, Nat.le_add_right _ _, Nat.le_of_ble_eq_true rfl, rfl⟩
theorem jsl (addr : Addr) : Statement (.jsl addr) := by
  rintro (_ | _) (_ | _) <;> exact ⟨rfl, Nat.le_add_right _ _, Nat.le_of_ble_eq_true rfl, rfl⟩
theorem andSr (ll : Byte) : Statement (.andSr ll) := by
  rintro (_ | _) (_ | _) <;> exact ⟨rfl, Nat.le_add_right _ _, Nat.le_of_ble_eq_true rfl, rfl⟩
theorem bitDp (ll : Byte) : Statement (.bitDp ll) := by
  rintro (_ | _) (_ | _) <;> exact ⟨rfl, Nat.le_add_right _ _, Nat.le_of_ble_eq_true rfl, rfl⟩
theorem andDp (ll : Byte) : Statement (.andDp ll) := by
  rintro (_ | _) (_ | _) <;> exact ⟨rfl, Nat.le_add_right _ _, Nat.le_of_ble_eq_true rfl, rfl⟩
theorem rolDp (ll : Byte) : Statement (.rolDp ll) := by
  rintro (_ | _) (_ | _) <;> exact ⟨rfl, Nat.le_add_right _ _, Nat.le_of_ble_eq_true rfl, rfl⟩
theorem andDpIndL (ll : Byte) : Statement (.andDpIndL ll) := by
  rintro (_ | _) (_ | _) <;> exact ⟨rfl, Nat.le_add_right _ _, Nat.le_of_ble_eq_true rfl, rfl⟩
theorem plp : Statement (.plp) := by
  rintro (_ | _) (_ | _) <;> exact ⟨rfl, Nat.le_add_right _ _, Nat.le_of_ble_eq_true rfl, rfl⟩
theorem andImm (imm : Word) : Statement (.andImm imm) := by
  rintro (_ | _) (_ | _) <;> exact ⟨rfl, Nat.le_add_right _ _, Nat.le_of_ble_eq_true rfl, rfl⟩
theorem rolAcc : Statement (.rolAcc) := by
  rintro (_ | _) (_ | _) <;> exact ⟨rfl, Nat.le_add_right _ _, Nat.le_of_ble_eq_true rfl, rfl⟩
theorem pld : Statement (.pld) := by
  rintro (_ | _) (_ | _) <;> exact ⟨rfl, Nat.le_add_right _ _, Nat.le_of_ble_eq_true rfl, rfl⟩
theorem bitAbs (hhll : Word) : Statement (.bitAbs hhll) := by
  rintro (_ | _) (_ | _) <;> exact ⟨rfl, Nat.le_add_right _ _, Nat.le_of_ble_eq_true rfl, rfl⟩
theorem andAbs (hhll : Word) : Statement (.andAbs hhll) := by
  rintro (_ | _) (_ | _) <;> exact ⟨rfl, Nat.le_add_right _ _, Nat.le_of_ble_eq_true rfl, rfl⟩
theorem rolAbs (hhll : Word) : Statement (.rolAbs hhll) := by
  rintro (_ | _) (_ | _) <;> exact ⟨rfl, Nat.le_add_right _ _, Nat.le_of_ble_eq_true rfl, rfl⟩
theorem andLong (addr : Addr) : Statement (.andLong addr) := by
  rintro (_ | _) (_ | _) <;> exact ⟨rfl, Nat.le_add_right _ _, Nat.le_of_ble_eq_true rfl, rfl⟩
theorem bmi (d : Byte) : Statement (.bmi d) := by
  rintro (_ | _) (_ | _) <;> exact ⟨rfl, Nat.le_add_right _ _, Nat.le_of_ble_eq_true rfl, rfl⟩
theorem andDpIndY (ll : Byte) : Statement (.andDpIndY ll) := by
  rintro (_ | _) (_ | _) <;> exact ⟨rfl, Nat.le_add_right _ _, Nat.le_of_ble_eq_true rfl, rfl⟩
theorem andDpInd (ll : Byte) : Statement (.andDpInd ll) := by
  rintro (_ | _) (_ | _) <;> exact ⟨rfl, Nat.le_add_right _ _, Nat.le_of_ble_eq_true rfl, rfl⟩
theorem andSrIndY (ll : Byte) : Statement (.andSrIndY ll) := by
  rintro (_ | _) (_ | _) <;> exact ⟨rfl, Nat.le_add_right _ _, Nat.le_of_ble_eq_true rfl, rfl⟩
theorem bitDpX (ll : Byte) : Statement (.bitDpX ll) := by
  rintro (_ | _) (_ | _) <;> exact ⟨rfl, Nat.le_add_right _ _, Nat.le_of_ble_eq_true rfl, rfl⟩
theorem andDpX (ll : Byte) : Statement (.andDpX ll) := by
  rintro (_ | _) (_ | _) <;> exact ⟨rfl, Nat.le_add_right _ _, Nat.le_of_ble_eq_true rfl, rfl⟩
theorem rolDpX (ll : Byte) : Statement (.rolDpX ll) := by
  rintro (_ | _) (_ | _) <;> exact ⟨rfl, Nat.le_add_right _ _, Nat.le_of_ble_eq_true rfl, rfl⟩
theorem andDpIndLY (ll : Byte) : Statement (.andDpIndLY ll) := by
  rintro (_ | _) (_ | _) <;> exact ⟨rfl, Nat.le_add_right _ _, Nat.le_of_ble_eq_true rfl, rfl⟩
theorem sec : Statement (.sec) := by
  rintro (_ | _) (_ | _) <;> exact ⟨rfl, Nat.le_add_right _ _, Nat.le_of_ble_eq_true rfl, rfl⟩
theorem andAbsY (hhll : Word) : Statement (.andAbsY hhll) := by
  rintro (_ | _) (_ | _) <;> exact ⟨rfl, Nat.le_add_right _ _, Nat.le_of_ble_eq_true rfl, rfl⟩
theorem decAcc : Statement (.decAcc) := by
  rintro (_ | _) (_ | _) <;> exact ⟨rfl, Nat.le_add_right _ _, Nat.le_of_ble_eq_true rfl, rfl⟩
theorem tsc : Statement (.tsc) := by
  rintro (_ | _) (_ | _) <;> exact ⟨rfl, Nat.le_add_right _ _, Nat.le_of_ble_eq_true rfl, rfl⟩
theorem bitAbsX (hhll : Word) : Statement (.bitAbsX hhll) := by
  rintro (_ | _) (_ | _) <;> exact ⟨rfl, Nat.le_add_right _ _, Nat.le_of_ble_eq_true rfl, rfl⟩
theorem andAbsX (hhll : Word) : Statement (.andAbsX hhll) := by
  rintro (_ | _) (_ | _) <;> exact ⟨rfl, Nat.le_add_right _ _, Nat.le_of_ble_eq_true rfl, rfl⟩
theorem rolAbsX (hhll : Word) : Statement (.rolAbsX hhll) := by
  rintro (_ | _) (_ | _) <;> exact ⟨rfl, Nat.le_add_right _ _, Nat.le_of_ble_eq_true rfl, rfl⟩
theorem andLongX (addr : Addr) : Statement (.andLongX addr) := by
  rintro (_ | _) (_ | _) <;> exact ⟨rfl, Nat.le_add_right _ _, Nat.le_of_ble_eq_true rfl, rfl⟩
theorem rti : Statement (.rti) := by
  rintro (_ | _) (_ | _) <;> exact ⟨rfl, Nat.le_add_right _ _, Nat.le_of_ble_eq_true rfl, rfl⟩
theorem eorDpXInd (ll : Byte) : Statement (.eorDpXInd ll) := by
  rintro (_ | _) (_ | _) <;> exact ⟨rfl, Nat.le_add_right _ _, Nat.le_of_ble_eq_true rfl, rfl⟩
theorem wdm (sig : Byte) : Statement (.wdm sig) := by
  rintro (_ | _) (_ | _) <;> exact ⟨rfl, Nat.le_add_right _ _, Nat.le_of_ble_eq_true rfl, rfl⟩
theorem eorSr (ll : Byte) : Statement (.eorSr ll) := by
  rintro (_ | _) (_ | _) <;> exact ⟨rfl, Nat.le_add_right _ _, Nat.le_of_ble_eq_true rfl, rfl⟩
theorem mvp (dst src : Byte) : Statement (.mvp dst src) := by
  rintro (_ | _) (_ | _) <;> exact ⟨rfl, Nat.le_add_right _ _, Nat.le_of_ble_eq_true rfl, rfl⟩
theorem eorDp (ll : Byte) : Statement (.eorDp ll) := by
  rintro (_ | _) (_ | _) <;> exact ⟨rfl, Nat.le_add_right _ _, Nat.le_of_ble_eq_true rfl, rfl⟩
theorem lsrDp (ll : Byte) : Statement (.lsrDp ll) := by
  rintro (_ | _) (_ | _) <;> exact ⟨rfl, Nat.le_add_right _ _, Nat.le_of_ble_eq_true rfl, rfl⟩
theorem eorDpIndL (ll : Byte) : Statement (.eorDpIndL ll) := by
  rintro (_ | _) (_ | _) <;> exact ⟨rfl, Nat.le_add_right _ _, Nat.le_of_ble_eq_true rfl, rfl⟩
theorem pha : Statement (.pha) := by
  rintro (_ | _) (_ | _) <;> exact ⟨rfl, Nat.le_add_right _ _, Nat.le_of_ble_eq_true rfl, rfl⟩
theorem eorImm (imm : Word) : Statement (.eorImm imm) := by
  rintro (_ | _) (_ | _) <;> exact ⟨rfl, Nat.le_add_right _ _, Nat.le_of_ble_eq_true rfl, rfl⟩
theorem lsrAcc : Statement (.lsrAcc) := by
  rintro (_ | _) (_ | _) <;> exact ⟨rfl, Nat.le_add_right _ _, Nat.le_of_ble_eq_true rfl, rfl⟩
theorem phk : Statement (.phk) := by
  rintro (_ | _) (_ | _) <;> exact ⟨rfl, Nat.le_add_right _ _, Nat.le_of_ble_eq_true rfl, rfl⟩
theorem jmpAbs (hhll : Word) : Statement (.jmpAbs hhll) := by
  rintro (_ | _) (_ | _) <;> exact ⟨rfl, Nat.le_add_right _ _, Nat.le_of_ble_eq_true rfl, rfl⟩
theorem eorAbs (hhll : Word) : Statement (.eorAbs hhll) := by
  rintro (_ | _) (_ | _) <;> exact ⟨rfl, Nat.le_add_right _ _, Nat.le_of_ble_eq_true rfl, rfl⟩
theorem lsrAbs (hhll : Word) : Statement (.lsrAbs hhll) := by
  rintro (_ | _) (_ | _) <;> exact ⟨rfl, Nat.le_add_right _ _, Nat.le_of_ble_eq_true rfl, rfl⟩
theorem eorLong (addr : Addr) : Statement (.eorLong addr) := by
  rintro (_ | _) (_ | _) <;> exact ⟨rfl, Nat.le_add_right _ _, Nat.le_of_ble_eq_true rfl, rfl⟩
theorem bvc (d : Byte) : Statement (.bvc d) := by
  rintro (_ | _) (_ | _) <;> exact ⟨rfl, Nat.le_add_right _ _, Nat.le_of_ble_eq_true rfl, rfl⟩
theorem eorDpIndY (ll : Byte) : Statement (.eorDpIndY ll) := by
  rintro (_ | _) (_ | _) <;> exact ⟨rfl, Nat.le_add_right _ _, Nat.le_of_ble_eq_true rfl, rfl⟩
theorem eorDpInd (ll : Byte) : Statement (.eorDpInd ll) := by
  rintro (_ | _) (_ | _) <;> exact ⟨rfl, Nat.le_add_right _ _, Nat.le_of_ble_eq_true rfl, rfl⟩
theorem eorSrIndY (ll : Byte) : Statement (.eorSrIndY ll) := by
  rintro (_ | _) (_ | _) <;> exact ⟨rfl, Nat.le_add_right _ _, Nat.le_of_ble_eq_true rfl, rfl⟩
theorem mvn (dst src : Byte) : Statement (.mvn dst src) := by
  rintro (_ | _) (_ | _) <;> exact ⟨rfl, Nat.le_add_right _ _, Nat.le_of_ble_eq_true rfl, rfl⟩
theorem eorDpX (ll : Byte) : Statement (.eorDpX ll) := by
  rintro (_ | _) (_ | _) <;> exact ⟨rfl, Nat.le_add_right _ _, Nat.le_of_ble_eq_true rfl, rfl⟩
theorem lsrDpX (ll : Byte) : Statement (.lsrDpX ll) := by
  rintro (_ | _) (_ | _) <;> exact ⟨rfl, Nat.le_add_right _ _, Nat.le_of_ble_eq_true rfl, rfl⟩
theorem eorDpIndLY (ll : Byte) : Statement (.eorDpIndLY ll) := by
  rintro (_ | _) (_ | _) <;> exact ⟨rfl, Nat.le_add_right _ _, Nat.le_of_ble_eq_true rfl, rfl⟩
theorem cli : Statement (.cli) := by
  rintro (_ | _) (_ | _) <;> exact ⟨rfl, Nat.le_add_right _ _, Nat.le_of_ble_eq_true rfl, rfl⟩
theorem eorAbsY (hhll : Word) : Statement (.eorAbsY hhll) := by
  rintro (_ | _) (_ | _) <;> exact ⟨rfl, Nat.le_add_right _ _, Nat.le_of_ble_eq_true rfl, rfl⟩
theorem phy : Statement (.phy) := by
  rintro (_ | _) (_ | _) <;> exact ⟨rfl, Nat.le_add_right _ _, Nat.le_of_ble_eq_true rfl, rfl⟩
theorem tcd : Statement (.tcd) := by
  rintro (_ | _) (_ | _) <;> exact ⟨rfl, Nat.le_add_right _ _, Nat.le_of_ble_eq_true rfl, rfl⟩
theorem jmlLong (addr : Addr) : Statement (.jmlLong addr) := by
  rintro (_ | _) (_ | _) <;> exact ⟨rfl, Nat.le_add_right _ _, Nat.le_of_ble_eq_true rfl, rfl⟩
theorem eorAbsX (hhll : Word) : Statement (.eorAbsX hhll) := by
  rintro (_ | _) (_ | _) <;> exact ⟨rfl, Nat.le_add_right _ _, Nat.le_of_ble_eq_true rfl, rfl⟩
theorem lsrAbsX (hhll : Word) : Statement (.lsrAbsX hhll) := by
  rintro (_ | _) (_ | _) <;> exact ⟨rfl, Nat.le_add_right _ _, Nat.le_of_ble_eq_true rfl, rfl⟩
theorem eorLongX (addr : Addr) : Statement (.eorLongX addr) := by
  rintro (_ | _) (_ | _) <;> exact ⟨rfl, Nat.le_add_right _ _, Nat.le_of_ble_eq_true rfl, rfl⟩
theorem rts : Statement (.rts) := by
  rintro (_ | _) (_ | _) <;> exact ⟨rfl, Nat.le_add_right _ _, Nat.le_of_ble_eq_true rfl, rfl⟩
theorem adcDpXInd (ll : Byte) : Statement (.adcDpXInd ll) := by
  rintro (_ | _) (_ | _) <;> exact ⟨rfl, Nat.le_add_right _ _, Nat.le_of_ble_eq_true rfl, rfl⟩
theorem per (d : Word) : Statement (.per d) := by
  rintro (_ | _) (_ | _) <;> exact ⟨rfl, Nat.le_add_right _ _, Nat.le_of_ble_eq_true rfl, rfl⟩
theorem adcSr (ll : Byte) : Statement (.adcSr ll) := by
  rintro (_ | _) (_ | _) <;> exact ⟨rfl, Nat.le_add_right _ _, Nat.le_of_ble_eq_true rfl, rfl⟩
theorem stzDp (ll : Byte) : Statement (.stzDp ll) := by
  rintro (_ | _) (_ | _) <;> exact ⟨rfl, Nat.le_add_right _ _, Nat.le_of_ble_eq_true rfl, rfl⟩
theorem adcDp (ll : Byte) : Statement (.adcDp ll) := by
  rintro (_ | _) (_ | _) <;> exact ⟨rfl, Nat.le_add_right _ _, Nat.le_of_ble_eq_true rfl, rfl⟩
theorem rorDp (ll : Byte) : Statement (.rorDp ll) := by
  rintro (_ | _) (_ | _) <;> exact ⟨rfl, Nat.le_add_right _ _, Nat.le_of_ble_eq_true rfl, rfl⟩
theorem adcDpIndL (ll : Byte) : Statement (.adcDpIndL ll) := by
  rintro (_ | _) (_ | _) <;> exact ⟨rfl, Nat.le_add_right _ _, Nat.le_of_ble_eq_true rfl, rfl⟩
theorem pla : Statement (.pla) := by
  rintro (_ | _) (_ | _) <;> exact ⟨rfl, Nat.le_add_right _ _, Nat.le_of_ble_eq_true rfl, rfl⟩
theorem adcImm (imm : Word) : Statement (.adcImm imm) := by
  rintro (_ | _) (_ | _) <;> exact ⟨rfl, Nat.le_add_right _ _, Nat.le_of_ble_eq_true rfl, rfl⟩
theorem rorAcc : Statement (.rorAcc) := by
  rintro (_ | _) (_ | _) <;> exact ⟨rfl, Nat.le_add_right _ _, Nat.le_of_ble_eq_true rfl, rfl⟩
theorem rtl : Statement (.rtl) := by
  rintro (_ | _) (_ | _) <;> exact ⟨rfl, Nat.le_add_right _ _, Nat.le_of_ble_eq_true rfl, rfl⟩
theorem jmpAbsInd (hhll : Word) : Statement (.jmpAbsInd hhll) := by
  rintro (_ | _) (_ | _) <;> exact ⟨rfl, Nat.le_add_right _ _, Nat.le_of_ble_eq_true rfl, rfl⟩
theorem adcAbs (hhll : Word) : Statement (.adcAbs hhll) := by
  rintro (_ | _) (_ | _) <;> exact ⟨rfl, Nat.le_add_right _ _, Nat.le_of_ble_eq_true rfl, rfl⟩
theorem rorAbs (hhll : Word) : Statement (.rorAbs hhll) := by
  rintro (_ | _) (_ | _) <;> exact ⟨rfl, Nat.le_add_right _ _, Nat.le_of_ble_eq_true rfl, rfl⟩
theorem adcLong (addr : Addr) : Statement (.adcLong addr) := by
  rintro (_ | _) (_ | _) <;> exact ⟨rfl, Nat.le_add_right _ _, Nat.le_of_ble_eq_true rfl, rfl⟩
theorem bvs (d : Byte) : Statement (.bvs d) := by
  rintro (_ | _) (_ | _) <;> exact ⟨rfl, Nat.le_add_right _ _, Nat.le_of_ble_eq_true rfl, rfl⟩
theorem adcDpIndY (ll : Byte) : Statement (.adcDpIndY ll) := by
  rintro (_ | _) (_ | _) <;> exact ⟨rfl, Nat.le_add_right _ _, Nat.le_of_ble_eq_true rfl, rfl⟩
theorem adcDpInd (ll : Byte) : Statement (.adcDpInd ll) := by
  rintro (_ | _) (_ | _) <;> exact ⟨rfl, Nat.le_add_right _ _, Nat.le_of_ble_eq_true rfl, rfl⟩
theorem adcSrIndY (ll : Byte) : Statement (.adcSrIndY ll) := by
  rintro (_ | _) (_ | _) <;> exact ⟨rfl, Nat.le_add_right _ _, Nat.le_of_ble_eq_true rfl, rfl⟩
theorem stzDpX (ll : Byte) : Statement (.stzDpX ll) := by
  rintro (_ | _) (_ | _) <;> exact ⟨rfl, Nat.le_add_right _ _, Nat.le_of_ble_eq_true rfl, rfl⟩
theorem adcDpX (ll : Byte) : Statement (.adcDpX ll) := by
  rintro (_ | _) (_ | _) <;> exact ⟨rfl, Nat.le_add_right _ _, Nat.le_of_ble_eq_true rfl, rfl⟩
theorem rorDpX (ll : Byte) : Statement (.rorDpX ll) := by
  rintro (_ | _) (_ | _) <;> exact ⟨rfl, Nat.le_add_right _ _, Nat.le_of_ble_eq_true rfl, rfl⟩
theorem adcDpIndLY (ll : Byte) : Statement (.adcDpIndLY ll) := by
  rintro (_ | _) (_ | _) <;> exact ⟨rfl, Nat.le_add_right _ _, Nat.le_of_ble_eq_true rfl, rfl⟩
theorem sei : Statement (.sei) := by
  rintro (_ | _) (_ | _) <;> exact ⟨rfl, Nat.le_add_right _ _, Nat.le_of_ble_eq_true rfl, rfl⟩
theorem adcAbsY (hhll : Word) : Statement (.adcAbsY hhll) := by
  rintro (_ | _) (_ | _) <;> exact ⟨rfl, Nat.le_add_right _ _, Nat.le_of_ble_eq_true rfl, rfl⟩
theorem ply : Statement (.ply) := by
  rintro (_ | _) (_ | _) <;> exact ⟨rfl, Nat.le_add_right _ _, Nat.le_of_ble_eq_true rfl, rfl⟩
theorem tdc : Statement (.tdc) := by
  rintro (_ | _) (_ | _) <;> exact ⟨rfl, Nat.le_add_right _ _, Nat.le_of_ble_eq_true rfl, rfl⟩
theorem jmpAbsXInd (hhll : Word) : Statement (.jmpAbsXInd hhll) := by
  rintro (_ | _) (_ | _) <;> exact ⟨rfl, Nat.le_add_right _ _, Nat.le_of_ble_eq_true rfl, rfl⟩
theorem adcAbsX (hhll : Word) : Statement (.adcAbsX hhll) := by
  rintro (_ | _) (_ | _) <;> exact ⟨rfl, Nat.le_add_right _ _, Nat.le_of_ble_eq_true rfl, rfl⟩
theorem rorAbsX (hhll : Word) : Statement (.rorAbsX hhll) := by
  rintro (_ | _) (_ | _) <;> exact ⟨rfl, Nat.le_add_right _ _, Nat.le_of_ble_eq_true rfl, rfl⟩
theorem adcLongX (addr : Addr) : Statement (.adcLongX addr) := by
  rintro (_ | _) (_ | _) <;> exact ⟨rfl, Nat.le_add_right _ _, Nat.le_of_ble_eq_true rfl, rfl⟩
theorem bra (d : Byte) : Statement (.bra d) := by
  rintro (_ | _) (_ | _) <;> exact ⟨rfl, Nat.le_add_right _ _, Nat.le_of_ble_eq_true rfl, rfl⟩
theorem staDpXInd (ll : Byte) : Statement (.staDpXInd ll) := by
  rintro (_ | _) (_ | _) <;> exact ⟨rfl, Nat.le_add_right _ _, Nat.le_of_ble_eq_true rfl, rfl⟩
theorem brl (d : Word) : Statement (.brl d) := by
  rintro (_ | _) (_ | _) <;> exact ⟨rfl, Nat.le_add_right _ _, Nat.le_of_ble_eq_true rfl, rfl⟩
theorem staSr (ll : Byte) : Statement (.staSr ll) := by
  rintro (_ | _) (_ | _) <;> exact ⟨rfl, Nat.le_add_right _ _, Nat.le_of_ble_eq_true rfl, rfl⟩
theorem styDp (ll : Byte) : Statement (.styDp ll) := by
  rintro (_ | _) (_ | _) <;> exact ⟨rfl, Nat.le_add_right _ _, Nat.le_of_ble_eq_true rfl, rfl⟩
theorem staDp (ll : Byte) : Statement (.staDp ll) := by
  rintro (_ | _) (_ | _) <;> exact ⟨rfl, Nat.le_add_right _ _, Nat.le_of_ble_eq_true rfl, rfl⟩
theorem stxDp (ll : Byte) : Statement (.stxDp ll) := by
  rintro (_ | _) (_ | _) <;> exact ⟨rfl, Nat.le_add_right _ _, Nat.le_of_ble_eq_true rfl, rfl⟩
theorem staDpIndL (ll : Byte) : Statement (.staDpIndL ll) := by
  rintro (_ | _) (_ | _) <;> exact ⟨rfl, Nat.le_add_right _ _, Nat.le_of_ble_eq_true rfl, rfl⟩
theorem dey : Statement (.dey) := by
  rintro (_ | _) (_ | _) <;> exact ⟨rfl, Nat.le_add_right _ _, Nat.le_of_ble_eq_true rfl, rfl⟩
theorem bitImm (imm : Word) : Statement (.bitImm imm) := by
  rintro (_ | _) (_ | _) <;> exact ⟨rfl, Nat.le_add_right _ _, Nat.le_of_ble_eq_true rfl, rfl⟩
theorem txa : Statement (.txa) := by
  rintro (_ | _) (_ | _) <;> exact ⟨rfl, Nat.le_add_right _ _, Nat.le_of_ble_eq_true rfl, rfl⟩
theorem phb : Statement (.phb) := by
  rintro (_ | _) (_ | _) <;> exact ⟨rfl, Nat.le_add_right _ _, Nat.le_of_ble_eq_true rfl, rfl⟩
theorem styAbs (hhll : Word) : Statement (.styAbs hhll) := by
  rintro (_ | _) (_ | _) <;> exact ⟨rfl, Nat.le_add_right _ _, Nat.le_of_ble_eq_true rfl, rfl⟩
theorem staAbs (hhll : Word) : Statement (.staAbs hhll) := by
  rintro (_ | _) (_ | _) <;> exact ⟨rfl, Nat.le_add_right _ _, Nat.le_of_ble_eq_true rfl, rfl⟩
theorem stxAbs (hhll : Word) : Statement (.stxAbs hhll) := by
  rintro (_ | _) (_ | _) <;> exact ⟨rfl, Nat.le_add_right _ _, Nat.le_of_ble_eq_true rfl, rfl⟩
theorem staLong (addr : Addr) : Statement (.staLong addr) := by
  rintro (_ | _) (_ | _) <;> exact ⟨rfl, Nat.le_add_right _ _, Nat.le_of_ble_eq_true rfl, rfl⟩
theorem bcc (d : Byte) : Statement (.bcc d) := by
  rintro (_ | _) (_ | _) <;> exact ⟨rfl, Nat.le_add_right _ _, Nat.le_of_ble_eq_true rfl, rfl⟩
theorem staDpIndY (ll : Byte) : Statement (.staDpIndY ll) := by
  rintro (_ | _) (_ | _) <;> exact ⟨rfl, Nat.le_add_right _ _, Nat.le_of_ble_eq_true rfl, rfl⟩
theorem staDpInd (ll : Byte) : Statement (.staDpInd ll) := by
  rintro (_ | _) (_ | _) <;> exact ⟨rfl, Nat.le_add_right _ _, Nat.le_of_ble_eq_true rfl, rfl⟩
theorem staSrIndY (ll : Byte) : Statement (.staSrIndY ll) := by
  rintro (_ | _) (_ | _) <;> exact ⟨rfl, Nat.le_add_right _ _, Nat.le_of_ble_eq_true rfl, rfl⟩
theorem styDpX (ll : Byte) : Statement (.styDpX ll) := by
  rintro (_ | _) (_ | _) <;> exact ⟨rfl, Nat.le_add_right _ _, Nat.le_of_ble_eq_true rfl, rfl⟩
theorem staDpX (ll : Byte) : Statement (.staDpX ll) := by
  rintro (_ | _) (_ | _) <;> exact ⟨rfl, Nat.le_add_right _ _, Nat.le_of_ble_eq_true rfl, rfl⟩
theorem stxDpY (ll : Byte) : Statement (.stxDpY ll) := by
  rintro (_ | _) (_ | _) <;> exact ⟨rfl, Nat.le_add_right _ _, Nat.le_of_ble_eq_true rfl, rfl⟩
theorem staDpIndLY (ll : Byte) : Statement (.staDpIndLY ll) := by
  rintro (_ | _) (_ | _) <;> exact ⟨rfl, Nat.le_add_right _ _, Nat.le_of_ble_eq_true rfl, rfl⟩
theorem tya : Statement (.tya) := by
  rintro (_ | _) (_ | _) <;> exact ⟨rfl, Nat.le_add_right _ _, Nat.le_of_ble_eq_true rfl, rfl⟩
theorem staAbsY (hhll : Word) : Statement (.staAbsY hhll) := by
  rintro (_ | _) (_ | _) <;> exact ⟨rfl, Nat.le_add_right _ _, Nat.le_of_ble_eq_true rfl, rfl⟩
theorem txs : Statement (.txs) := by
  rintro (_ | _) (_ | _) <;> exact ⟨rfl, Nat.le_add_right _ _, Nat.le_of_ble_eq_true rfl, rfl⟩
theorem txy : Statement (.txy) := by
  rintro (_ | _) (_ | _) <;> exact ⟨rfl, Nat.le_add_right _ _, Nat.le_of_ble_eq_true rfl, rfl⟩
theorem stzAbs (hhll : Word) : Statement (.stzAbs hhll) := by
  rintro (_ | _) (_ | _) <;> exact ⟨rfl, Nat.le_add_right _ _, Nat.le_of_ble_eq_true rfl, rfl⟩
theorem staAbsX (hhll : Word) : Statement (.staAbsX hhll) := by
  rintro (_ | _) (_ | _) <;> exact ⟨rfl, Nat.le_add_right _ _, Nat.le_of_ble_eq_true rfl, rfl⟩
theorem stzAbsX (hhll : Word) : Statement (.stzAbsX hhll) := by
  rintro (_ | _) (_ | _) <;> exact ⟨rfl, Nat.le_add_right _ _, Nat.le_of_ble_eq_true rfl, rfl⟩
theorem staLongX (addr : Addr) : Statement (.staLongX addr) := by
  rintro (_ | _) (_ | _) <;> exact ⟨rfl, Nat.le_add_right _ _, Nat.le_of_ble_eq_true rfl, rfl⟩
theorem ldyImm (imm : Word) : Statement (.ldyImm imm) := by
  rintro (_ | _) (_ | _) <;> exact ⟨rfl, Nat.le_add_right _ _, Nat.le_of_ble_eq_true rfl, rfl⟩
theorem ldaDpXInd (ll : Byte) : Statement (.ldaDpXInd ll) := by
  rintro (_ | _) (_ | _) <;> exact ⟨rfl, Nat.le_add_right _ _, Nat.le_of_ble_eq_true rfl, rfl⟩
theorem ldxImm (imm : Word) : Statement (.ldxImm imm) := by
  rintro (_ | _) (_ | _) <;> exact ⟨rfl, Nat.le_add_right _ _, Nat.le_of_ble_eq_true rfl, rfl⟩
theorem ldaSr (ll : Byte) : Statement (.ldaSr ll) := by
  rintro (_ | _) (_ | _) <;> exact ⟨rfl, Nat.le_add_right _ _, Nat.le_of_ble_eq_true rfl, rfl⟩
theorem ldyDp (ll : Byte) : Statement (.ldyDp ll) := by
  rintro (_ | _) (_ | _) <;> exact ⟨rfl, Nat.le_add_right _ _, Nat.le_of_ble_eq_true rfl, rfl⟩
theorem ldaDp (ll : Byte) : Statement (.ldaDp ll) := by
  rintro (_ | _) (_ | _) <;> exact ⟨rfl, Nat.le_add_right _ _, Nat.le_of_ble_eq_true rfl, rfl⟩
theorem ldxDp (ll : Byte) : Statement (.ldxDp ll) := by
  rintro (_ | _) (_ | _) <;> exact ⟨rfl, Nat.le_add_right _ _, Nat.le_of_ble_eq_true rfl, rfl⟩
theorem ldaDpIndL (ll : Byte) : Statement (.ldaDpIndL ll) := by
  rintro (_ | _) (_ | _) <;> exact ⟨rfl, Nat.le_add_right _ _, Nat.le_of_ble_eq_true rfl, rfl⟩
theorem tay : Statement (.tay) := by
  rintro (_ | _) (_ | _) <;> exact ⟨rfl, Nat.le_add_right _ _, Nat.le_of_ble_eq_true rfl, rfl⟩
theorem ldaImm (imm : Word) : Statement (.ldaImm imm) := by
  rintro (_ | _) (_ | _) <;> exact ⟨rfl, Nat.le_add_right _ _, Nat.le_of_ble_eq_true rfl, rfl⟩
theorem tax : Statement (.tax) := by
  rintro (_ | _) (_ | _) <;> exact ⟨rfl, Nat.le_add_right _ _, Nat.le_of_ble_eq_true rfl, rfl⟩
theorem plb : Statement (.plb) := by
  rintro (_ | _) (_ | _) <;> exact ⟨rfl, Nat.le_add_right _ _, Nat.le_of_ble_eq_true rfl, rfl⟩
theorem ldyAbs (hhll : Word) : Statement (.ldyAbs hhll) := by
  rintro (_ | _) (_ | _) <;> exact ⟨rfl, Nat.le_add_right _ _, Nat.le_of_ble_eq_true rfl, rfl⟩
theorem ldaAbs (hhll : Word) : Statement (.ldaAbs hhll) := by
  rintro (_ | _) (_ | _) <;> exact ⟨rfl, Nat.le_add_right _ _, Nat.le_of_ble_eq_true rfl, rfl⟩
theorem ldxAbs (hhll : Word) : Statement (.ldxAbs hhll) := by
  rintro (_ | _) (_ | _) <;> exact ⟨rfl, Nat.le_add_right _ _, Nat.le_of_ble_eq_true rfl, rfl⟩
theorem ldaLong (addr : Addr) : Statement (.ldaLong addr) := by
  rintro (_ | _) (_ | _) <;> exact ⟨rfl, Nat.le_add_right _ _, Nat.le_of_ble_eq_true rfl, rfl⟩
theorem bcs (d : Byte) : Statement (.bcs d) := by
  rintro (_ | _) (_ | _) <;> exact ⟨rfl, Nat.le_add_right _ _, Nat.le_of_ble_eq_true rfl, rfl⟩
theorem ldaDpIndY (ll : Byte) : Statement (.ldaDpIndY ll) := by
  rintro (_ | _) (_ | _) <;> exact ⟨rfl, Nat.le_add_right _ _, Nat.le_of_ble_eq_true rfl, rfl⟩
theorem ldaDpInd (ll : Byte) : Statement (.ldaDpInd ll) := by
  rintro (_ | _) (_ | _) <;> exact ⟨rfl, Nat.le_add_right _ _, Nat.le_of_ble_eq_true rfl, rfl⟩
theorem ldaSrIndY (ll : Byte) : Statement (.ldaSrIndY ll) := by
  rintro (_ | _) (_ | _) <;> exact ⟨rfl, Nat.le_add_right _ _, Nat.le_of_ble_eq_true rfl, rfl⟩
theorem ldyDpX (ll : Byte) : Statement (.ldyDpX ll) := by
  rintro (_ | _) (_ | _) <;> exact ⟨rfl, Nat.le_add_right _ _, Nat.le_of_ble_eq_true rfl, rfl⟩
theorem ldaDpX (ll : Byte) : Statement (.ldaDpX ll) := by
  rintro (_ | _) (_ | _) <;> exact ⟨rfl, Nat.le_add_right _ _, Nat.le_of_ble_eq_true rfl, rfl⟩
theorem ldxDpY (ll : Byte) : Statement (.ldxDpY ll) := by
  rintro (_ | _) (_ | _) <;> exact ⟨rfl, Nat.le_add_right _ _, Nat.le_of_ble_eq_true rfl, rfl⟩
theorem ldaDpIndLY (ll : Byte) : Statement (.ldaDpIndLY ll) := by
  rintro (_ | _) (_ | _) <;> exact ⟨rfl, Nat.le_add_right _ _, Nat.le_of_ble_eq_true rfl, rfl⟩
theorem clv : Statement (.clv) := by
  rintro (_ | _) (_ | _) <;> exact ⟨rfl, Nat.le_add_right _ _, Nat.le_of_ble_eq_true rfl, rfl⟩
theorem ldaAbsY (hhll : Word) : Statement (.ldaAbsY hhll) := by
  rintro (_ | _) (_ | _) <;> exact ⟨rfl, Nat.le_add_right _ _, Nat.le_of_ble_eq_true rfl, rfl⟩
theorem tsx : Statement (.tsx) := by
  rintro (_ | _) (_ | _) <;> exact ⟨rfl, Nat.le_add_right _ _, Nat.le_of_ble_eq_true rfl, rfl⟩
theorem tyx : Statement (.tyx) := by
  rintro (_ | _) (_ | _) <;> exact ⟨rfl, Nat.le_add_right _ _, Nat.le_of_ble_eq_true rfl, rfl⟩
theorem ldyAbsX (hhll : Word) : Statement (.ldyAbsX hhll) := by
  rintro (_ | _) (_ | _) <;> exact ⟨rfl, Nat.le_add_right _ _, Nat.le_of_ble_eq_true rfl, rfl⟩
theorem ldaAbsX (hhll : Word) : Statement (.ldaAbsX hhll) := by
  rintro (_ | _) (_ | _) <;> exact ⟨rfl, Nat.le_add_right _ _, Nat.le_of_ble_eq_true rfl, rfl⟩
theorem ldxAbsY (hhll : Word) : Statement (.ldxAbsY hhll) := by
  rintro (_ | _) (_ | _) <;> exact ⟨rfl, Nat.le_add_right _ _, Nat.le_of_ble_eq_true rfl, rfl⟩
theorem ldaLongX (addr : Addr) : Statement (.ldaLongX addr) := by
  rintro (_ | _) (_ | _) <;> exact ⟨rfl, Nat.le_add_right _ _, Nat.le_of_ble_eq_true rfl, rfl⟩
theorem cpyImm (imm : Word) : Statement (.cpyImm imm) := by
  rintro (_ | _) (_ | _) <;> exact ⟨rfl, Nat.le_add_right _ _, Nat.le_of_ble_eq_true rfl, rfl⟩
theorem cmpDpXInd (ll : Byte) : Statement (.cmpDpXInd ll) := by
  rintro (_ | _) (_ | _) <;> exact ⟨rfl, Nat.le_add_right _ _, Nat.le_of_ble_eq_true rfl, rfl⟩
theorem rep (mask : Byte) : Statement (.rep mask) := by
  rintro (_ | _) (_ | _) <;> exact ⟨rfl, Nat.le_add_right _ _, Nat.le_of_ble_eq_true rfl, rfl⟩
theorem cmpSr (ll : Byte) : Statement (.cmpSr ll) := by
  rintro (_ | _) (_ | _) <;> exact ⟨rfl, Nat.le_add_right _ _, Nat.le_of_ble_eq_true rfl, rfl⟩
theorem cpyDp (ll : Byte) : Statement (.cpyDp ll) := by
  rintro (_ | _) (_ | _) <;> exact ⟨rfl, Nat.le_add_right _ _, Nat.le_of_ble_eq_true rfl, rfl⟩
theorem cmpDp (ll : Byte) : Statement (.cmpDp ll) := by
  rintro (_ | _) (_ | _) <;> exact ⟨rfl, Nat.le_add_right _ _, Nat.le_of_ble_eq_true rfl, rfl⟩
theorem decDp (ll : Byte) : Statement (.decDp ll) := by
  rintro (_ | _) (_ | _) <;> exact ⟨rfl, Nat.le_add_right _ _, Nat.le_of_ble_eq_true rfl, rfl⟩
theorem cmpDpIndL (ll : Byte) : Statement (.cmpDpIndL ll) := by
  rintro (_ | _) (_ | _) <;> exact ⟨rfl, Nat.le_add_right _ _, Nat.le_of_ble_eq_true rfl, rfl⟩
theorem iny : Statement (.iny) := by
  rintro (_ | _) (_ | _) <;> exact ⟨rfl, Nat.le_add_right _ _, Nat.le_of_ble_eq_true rfl, rfl⟩
theorem cmpImm (imm : Word) : Statement (.cmpImm imm) := by
  rintro (_ | _) (_ | _) <;> exact ⟨rfl, Nat.le_add_right _ _, Nat.le_of_ble_eq_true rfl, rfl⟩
theorem dex : Statement (.dex) := by
  rintro (_ | _) (_ | _) <;> exact ⟨rfl, Nat.le_add_right _ _, Nat.le_of_ble_eq_true rfl, rfl⟩
theorem wai : Statement (.wai) := by
  rintro (_ | _) (_ | _) <;> exact ⟨rfl, Nat.le_add_right _ _, Nat.le_of_ble_eq_true rfl, rfl⟩
theorem cpyAbs (hhll : Word) : Statement (.cpyAbs hhll) := by
  rintro (_ | _) (_ | _) <;> exact ⟨rfl, Nat.le_add_right _ _, Nat.le_of_ble_eq_true rfl, rfl⟩
theorem cmpAbs (hhll : Word) : Statement (.cmpAbs hhll) := by
  rintro (_ | _) (_ | _) <;> exact ⟨rfl, Nat.le_add_right _ _, Nat.le_of_ble_eq_true rfl, rfl⟩
theorem decAbs (hhll : Word) : Statement (.decAbs hhll) := by
  rintro (_ | _) (_ | _) <;> exact ⟨rfl, Nat.le_add_right _ _, Nat.le_of_ble_eq_true rfl, rfl⟩
theorem cmpLong (addr : Addr) : Statement (.cmpLong addr) := by
  rintro (_ | _) (_ | _) <;> exact ⟨rfl, Nat.le_add_right _ _, Nat.le_of_ble_eq_true rfl, rfl⟩
theorem bne (d : Byte) : Statement (.bne d) := by
  rintro (_ | _) (_ | _) <;> exact ⟨rfl, Nat.le_add_right _ _, Nat.le_of_ble_eq_true rfl, rfl⟩
theorem cmpDpIndY (ll : Byte) : Statement (.cmpDpIndY ll) := by
  rintro (_ | _) (_ | _) <;> exact ⟨rfl, Nat.le_add_right _ _, Nat.le_of_ble_eq_true rfl, rfl⟩
theorem cmpDpInd (ll : Byte) : Statement (.cmpDpInd ll) := by
  rintro (_ | _) (_ | _) <;> exact ⟨rfl, Nat.le_add_right _ _, Nat.le_of_ble_eq_true rfl, rfl⟩
theorem cmpSrIndY (ll : Byte) : Statement (.cmpSrIndY ll) := by
  rintro (_ | _) (_ | _) <;> exact ⟨rfl, Nat.le_add_right _ _, Nat.le_of_ble_eq_true rfl, rfl⟩
theorem pei (ll : Byte) : Statement (.pei ll) := by
  rintro (_ | _) (_ | _) <;> exact ⟨rfl, Nat.le_add_right _ _, Nat.le_of_ble_eq_true rfl, rfl⟩
theorem cmpDpX (ll : Byte) : Statement (.cmpDpX ll) := by
  rintro (_ | _) (_ | _) <;> exact ⟨rfl, Nat.le_add_right _ _, Nat.le_of_ble_eq_true rfl, rfl⟩
theorem decDpX (ll : Byte) : Statement (.decDpX ll) := by
  rintro (_ | _) (_ | _) <;> exact ⟨rfl, Nat.le_add_right _ _, Nat.le_of_ble_eq_true rfl, rfl⟩
theorem cmpDpIndLY (ll : Byte) : Statement (.cmpDpIndLY ll) := by
  rintro (_ | _) (_ | _) <;> exact ⟨rfl, Nat.le_add_right _ _, Nat.le_of_ble_eq_true rfl, rfl⟩
theorem cld : Statement (.cld) := by
  rintro (_ | _) (_ | _) <;> exact ⟨rfl, Nat.le_add_right _ _, Nat.le_of_ble_eq_true rfl, rfl⟩
theorem cmpAbsY (hhll : Word) : Statement (.cmpAbsY hhll) := by
  rintro (_ | _) (_ | _) <;> exact ⟨rfl, Nat.le_add_right _ _, Nat.le_of_ble_eq_true rfl, rfl⟩
theorem phx : Statement (.phx) := by
  rintro (_ | _) (_ | _) <;> exact ⟨rfl, Nat.le_add_right _ _, Nat.le_of_ble_eq_true rfl, rfl⟩
theorem stp : Statement (.stp) := by
  rintro (_ | _) (_ | _) <;> exact ⟨rfl, Nat.le_add_right _ _, Nat.le_of_ble_eq_true rfl, rfl⟩
theorem jmlAbsIndL (hhll : Word) : Statement (.jmlAbsIndL hhll) := by
  rintro (_ | _) (_ | _) <;> exact ⟨rfl, Nat.le_add_right _ _, Nat.le_of_ble_eq_true rfl, rfl⟩
theorem cmpAbsX (hhll : Word) : Statement (.cmpAbsX hhll) := by
  rintro (_ | _) (_ | _) <;> exact ⟨rfl, Nat.le_add_right _ _, Nat.le_of_ble_eq_true rfl, rfl⟩
theorem decAbsX (hhll : Word) : Statement (.decAbsX hhll) := by
  rintro (_ | _) (_ | _) <;> exact ⟨rfl, Nat.le_add_right _ _, Nat.le_of_ble_eq_true rfl, rfl⟩
theorem cmpLongX (addr : Addr) : Statement (.cmpLongX addr) := by
  rintro (_ | _) (_ | _) <;> exact ⟨rfl, Nat.le_add_right _ _, Nat.le_of_ble_eq_true rfl, rfl⟩
theorem cpxImm (imm : Word) : Statement (.cpxImm imm) := by
  rintro (_ | _) (_ | _) <;> exact ⟨rfl, Nat.le_add_right _ _, Nat.le_of_ble_eq_true rfl, rfl⟩
theorem sbcDpXInd (ll : Byte) : Statement (.sbcDpXInd ll) := by
  rintro (_ | _) (_ | _) <;> exact ⟨rfl, Nat.le_add_right _ _, Nat.le_of_ble_eq_true rfl, rfl⟩
theorem sep (mask : Byte) : Statement (.sep mask) := by
  rintro (_ | _) (_ | _) <;> exact ⟨rfl, Nat.le_add_right _ _, Nat.le_of_ble_eq_true rfl, rfl⟩
theorem sbcSr (ll : Byte) : Statement (.sbcSr ll) := by
  rintro (_ | _) (_ | _) <;> exact ⟨rfl, Nat.le_add_right _ _, Nat.le_of_ble_eq_true rfl, rfl⟩
theorem cpxDp (ll : Byte) : Statement (.cpxDp ll) := by
  rintro (_ | _) (_ | _) <;> exact ⟨rfl, Nat.le_add_right _ _, Nat.le_of_ble_eq_true rfl, rfl⟩
theorem sbcDp (ll : Byte) : Statement (.sbcDp ll) := by
  rintro (_ | _) (_ | _) <;> exact ⟨rfl, Nat.le_add_right _ _, Nat.le_of_ble_eq_true rfl, rfl⟩
theorem incDp (ll : Byte) : Statement (.incDp ll) := by
  rintro (_ | _) (_ | _) <;> exact ⟨rfl, Nat.le_add_right _ _, Nat.le_of_ble_eq_true rfl, rfl⟩
theorem sbcDpIndL (ll : Byte) : Statement (.sbcDpIndL ll) := by
  rintro (_ | _) (_ | _) <;> exact ⟨rfl, Nat.le_add_right _ _, Nat.le_of_ble_eq_true rfl, rfl⟩
theorem inx : Statement (.inx) := by
  rintro (_ | _) (_ | _) <;> exact ⟨rfl, Nat.le_add_right _ _, Nat.le_of_ble_eq_true rfl, rfl⟩
theorem sbcImm (imm : Word) : Statement (.sbcImm imm) := by
  rintro (_ | _) (_ | _) <;> exact ⟨rfl, Nat.le_add_right _ _, Nat.le_of_ble_eq_true rfl, rfl⟩
theorem nop : Statement (.nop) := by
  rintro (_ | _) (_ | _) <;> exact ⟨rfl, Nat.le_add_right _ _, Nat.le_of_ble_eq_true rfl, rfl⟩
theorem xba : Statement (.xba) := by
  rintro (_ | _) (_ | _) <;> exact ⟨rfl, Nat.le_add_right _ _, Nat.le_of_ble_eq_true rfl, rfl⟩
theorem cpxAbs (hhll : Word) : Statement (.cpxAbs hhll) := by
  rintro (_ | _) (_ | _) <;> exact ⟨rfl, Nat.le_add_right _ _, Nat.le_of_ble_eq_true rfl, rfl⟩
theorem sbcAbs (hhll : Word) : Statement (.sbcAbs hhll) := by
  rintro (_ | _) (_ | _) <;> exact ⟨rfl, Nat.le_add_right _ _, Nat.le_of_ble_eq_true rfl, rfl⟩
theorem incAbs (hhll : Word) : Statement (.incAbs hhll) := by
  rintro (_ | _) (_ | _) <;> exact ⟨rfl, Nat.le_add_right _ _, Nat.le_of_ble_eq_true rfl, rfl⟩
theorem sbcLong (addr : Addr) : Statement (.sbcLong addr) := by
  rintro (_ | _) (_ | _) <;> exact ⟨rfl, Nat.le_add_right _ _, Nat.le_of_ble_eq_true rfl, rfl⟩
theorem beq (d : Byte) : Statement (.beq d) := by
  rintro (_ | _) (_ | _) <;> exact ⟨rfl, Nat.le_add_right _ _, Nat.le_of_ble_eq_true rfl, rfl⟩
theorem sbcDpIndY (ll : Byte) : Statement (.sbcDpIndY ll) := by
  rintro (_ | _) (_ | _) <;> exact ⟨rfl, Nat.le_add_right _ _, Nat.le_of_ble_eq_true rfl, rfl⟩
theorem sbcDpInd (ll : Byte) : Statement (.sbcDpInd ll) := by
  rintro (_ | _) (_ | _) <;> exact ⟨rfl, Nat.le_add_right _ _, Nat.le_of_ble_eq_true rfl, rfl⟩
theorem sbcSrIndY (ll : Byte) : Statement (.sbcSrIndY ll) := by
  rintro (_ | _) (_ | _) <;> exact ⟨rfl, Nat.le_add_right _ _, Nat.le_of_ble_eq_true rfl, rfl⟩
theorem pea (imm : Word) : Statement (.pea imm) := by
  rintro (_ | _) (_ | _) <;> exact ⟨rfl, Nat.le_add_right _ _, Nat.le_of_ble_eq_true rfl, rfl⟩
theorem sbcDpX (ll : Byte) : Statement (.sbcDpX ll) := by
  rintro (_ | _) (_ | _) <;> exact ⟨rfl, Nat.le_add_right _ _, Nat.le_of_ble_eq_true rfl, rfl⟩
theorem incDpX (ll : Byte) : Statement (.incDpX ll) := by
  rintro (_ | _) (_ | _) <;> exact ⟨rfl, Nat.le_add_right _ _, Nat.le_of_ble_eq_true rfl, rfl⟩
theorem sbcDpIndLY (ll : Byte) : Statement (.sbcDpIndLY ll) := by
  rintro (_ | _) (_ | _) <;> exact ⟨rfl, Nat.le_add_right _ _, Nat.le_of_ble_eq_true rfl, rfl⟩
theorem sed : Statement (.sed) := by
  rintro (_ | _) (_ | _) <;> exact ⟨rfl, Nat.le_add_right _ _, Nat.le_of_ble_eq_true rfl, rfl⟩
theorem sbcAbsY (hhll : Word) : Statement (.sbcAbsY hhll) := by
  rintro (_ | _) (_ | _) <;> exact ⟨rfl, Nat.le_add_right _ _, Nat.le_of_ble_eq_true rfl, rfl⟩
theorem plx : Statement (.plx) := by
  rintro (_ | _) (_ | _) <;> exact ⟨rfl, Nat.le_add_right _ _, Nat.le_of_ble_eq_true rfl, rfl⟩
theorem xce : Statement (.xce) := by
  rintro (_ | _) (_ | _) <;> exact ⟨rfl, Nat.le_add_right _ _, Nat.le_of_ble_eq_true rfl, rfl⟩
theorem jsrAbsXInd (hhll : Word) : Statement (.jsrAbsXInd hhll) := by
  rintro (_ | _) (_ | _) <;> exact ⟨rfl, Nat.le_add_right _ _, Nat.le_of_ble_eq_true rfl, rfl⟩
theorem sbcAbsX (hhll : Word) : Statement (.sbcAbsX hhll) := by
  rintro (_ | _) (_ | _) <;> exact ⟨rfl, Nat.le_add_right _ _, Nat.le_of_ble_eq_true rfl, rfl⟩
theorem incAbsX (hhll : Word) : Statement (.incAbsX hhll) := by
  rintro (_ | _) (_ | _) <;> exact ⟨rfl, Nat.le_add_right _ _, Nat.le_of_ble_eq_true rfl, rfl⟩
theorem sbcLongX (addr : Addr) : Statement (.sbcLongX addr) := by
  rintro (_ | _) (_ | _) <;> exact ⟨rfl, Nat.le_add_right _ _, Nat.le_of_ble_eq_true rfl, rfl⟩

end Sys2Proof.Laws.EncodedLength
end

