-- ==== Sys2Proof/Tests/Slice0.lean ====
section
/-! SUPPORT. Tests of the model, each on one instruction or one step: well-formedness, decoding of words written out from the
spec, the spec's vectors and examples, and for every obligation with hypotheses a state and operands that meet them. Expected
values come from spec/95_test_vectors and from the examples of the rules. -/

namespace Sys2Proof.Tests

open Sys2Proof Sys2Proof.Machine Sys2Proof.Claims

/-! ### Small states -/

/-- Parameters under which every instruction costs 1 and no poll falls in a test (conventions of spec/95_test_vectors). -/
def calm : Params := { Params.default with timing := .budget (.table []) 0x10000 }

/-- The same with a collaborator in place of plain RAM. -/
def shared : Params := { calm with memory := .bus }

/-- The reset state of R482 with these bytes in memory and nothing else. -/
def withBytes (cells : List (Nat × Byte)) : State :=
  State.construct calm (cells.foldl (fun m c => m.write c.1 c.2) [])

/-- The flags after reset with both widths 8 bits. -/
def narrow : Flags := { Flags.reset with m := true, x := true }

/-- The flags of emulation mode with the rest clear (R49). -/
def emulation : Flags := { Flags.reset with e := true, m := true, x := true }

/-- What `f` reads from the state an outcome goes to. -/
def outcome {α : Type} (r : Result) (f : State → α) : Option α :=
  match r with
  | .next t => some (f t)
  | _ => none

/-- What `f` reads from the state after one step. -/
def after {α : Type} (s : State) (f : State → α) : Option α := outcome (step s) f

/-- What `f` reads from the state after one instruction. -/
def ran {α : Type} (i : Instr) (s : State) (f : State → α) : Option α := outcome (exec i s) f

/-- The instructions of these opcode bytes at 16-bit widths, each followed by 0x11, 0x22, 0x33. -/
def readAll (ops : List Byte) : List Instr := ops.map fun op => decodeBytes false false op 0x11 0x22 0x33

/-- A decoding that gives this instruction and leaves these bytes. -/
def decodesTo (m x : Bool) (bytes : List Byte) (i : Instr) (rest : List Byte) : Bool :=
  match decode m x bytes with
  | .ok r => decide (r = (i, rest))
  | .error _ => false

/-! ### Well-formedness: what the check refuses -/

/-- A 16-bit value is no immediate of an instruction whose width flag m is set (R114, R122). -/
theorem test_wellFormed_refuses_wide_immM : (Instr.ldaImm 0x1234).wellFormed true false = false := by decide

/-- A 16-bit value is no immediate of an instruction whose width flag x is set (R114, R122). -/
theorem test_wellFormed_refuses_wide_immX : (Instr.ldxImm 0x0100).wellFormed false true = false := by decide

/-- Each width flag is asked for its own immediates only (R116). -/
theorem test_wellFormed_accepts :
    ((Instr.ldaImm 0x1234).wellFormed false true && (Instr.ldxImm 0x1234).wellFormed true false &&
      (Instr.ldaImm 0x00FF).wellFormed true true && (Instr.pea 0xFFFF).wellFormed true true) = true := by decide

/-! ### Decoding: words written out from the spec -/

/-- A byte list that ends inside an instruction is rejected by its opcode (R112). -/
theorem test_decode_truncated :
    (match decode false false [0xA9, 0x05] with
      | .error e => decide (e = .truncated 0xA9)
      | .ok _ => false) = true := by decide

/-- No byte at all is rejected. -/
theorem test_decode_no_bytes :
    (match decode true true [] with
      | .error e => decide (e = .noBytes)
      | .ok _ => false) = true := by decide

/-- The accumulator operations by fields, opcode[7:5] and opcode[4:0] (R115): LDA is 101, immediate 01001. -/
theorem test_decode_lda_bits : decodesTo true false [0b101_01001, 0x05, 0xEA] (.ldaImm 0x0005) [0xEA] = true := by decide

/-- STA is 100, absolute 01101, the operand low byte first (R115, R114, R84). -/
theorem test_decode_sta_bits : decodesTo false false [0b100_01101, 0x00, 0x20] (.staAbs 0x2000) [] = true := by decide

/-- ADC is 011, `[dp],Y` 10111 (R115). -/
theorem test_decode_adc_bits : decodesTo false false [0b011_10111, 0x44] (.adcDpIndLY 0x44) [] = true := by decide

/-- AND is 001, stack-relative 00011 (R115). -/
theorem test_decode_and_bits : decodesTo false false [0b001_00011, 0x80] (.andSr 0x80) [] = true := by decide

/-- CMP is 110, `long,X` 11111, the third operand byte the bank (R115, R114). -/
theorem test_decode_cmp_bits :
    decodesTo true true [0b110_11111, 0x56, 0x34, 0x12] (.cmpLongX 0x123456) [] = true := by decide

/-- The immediate of CPX has the width of x and not of m (R123). -/
theorem test_decode_cpx_widths :
    (decodesTo true false [0xE0, 0x34, 0x12] (.cpxImm 0x1234) [] &&
      decodesTo false true [0xE0, 0x34, 0x12] (.cpxImm 0x0034) [0x12]) = true := by decide

/-- A block move's first operand byte is the destination bank (R114, R422). -/
theorem test_decode_mvn_banks : decodesTo false false [0x54, 0x7E, 0x7F] (.mvn 0x7E 0x7F) [] = true := by decide

/-- A shift, a branch, a call, a push, a flag instruction and a long jump (R115). -/
theorem test_decode_other_families :
    (decodesTo true true [0b00001010] .aslAcc [] && decodesTo true true [0b11010000, 0xFB] (.bne 0xFB) [] &&
      decodesTo true true [0b00100000, 0x00, 0x90] (.jsrAbs 0x9000) [] && decodesTo true true [0b01001000] .pha [] &&
      decodesTo true true [0b11000010, 0x30] (.rep 0x30) [] &&
      decodesTo true true [0b01011100, 0x00, 0x80, 0xC0] (.jmlLong 0xC08000) []) = true := by decide

/-- What the encoder writes for one instruction of each payload form (R114). -/
theorem test_encode_forms :
    [encode true true (.ldaImm 0x0005), encode false false (.ldaImm 0x1234), encode true true (.jsl 0x019000),
      encode true true (.mvp 0x01 0x02), encode true true .xba] =
      [[0xA9, 0x05], [0xA9, 0x34, 0x12], [0x22, 0x00, 0x90, 0x01], [0x44, 0x01, 0x02], [0xEB]] := by decide

/-! The opcode map, row by row. -/

/-- Opcode bytes 00 to 0F of the map R115, each followed by 11 22 33, at 16-bit widths. -/
theorem test_decode_row_0 :
    readAll [0x00, 0x01, 0x02, 0x03, 0x04, 0x05, 0x06, 0x07, 0x08, 0x09, 0x0A, 0x0B, 0x0C, 0x0D, 0x0E, 0x0F] =
      [.brk 0x11, .oraDpXInd 0x11, .cop 0x11, .oraSr 0x11, .tsbDp 0x11, .oraDp 0x11,
       .aslDp 0x11, .oraDpIndL 0x11, .php, .oraImm 0x2211, .aslAcc, .phd,
       .tsbAbs 0x2211, .oraAbs 0x2211, .aslAbs 0x2211, .oraLong 0x332211] := by decide

/-- Opcode bytes 10 to 1F of the map R115, each followed by 11 22 33, at 16-bit widths. -/
theorem test_decode_row_1 :
    readAll [0x10, 0x11, 0x12, 0x13, 0x14, 0x15, 0x16, 0x17, 0x18, 0x19, 0x1A, 0x1B, 0x1C, 0x1D, 0x1E, 0x1F] =
      [.bpl 0x11, .oraDpIndY 0x11, .oraDpInd 0x11, .oraSrIndY 0x11, .trbDp 0x11, .oraDpX 0x11,
       .aslDpX 0x11, .oraDpIndLY 0x11, .clc, .oraAbsY 0x2211, .incAcc, .tcs,
       .trbAbs 0x2211, .oraAbsX 0x2211, .aslAbsX 0x2211, .oraLongX 0x332211] := by decide

/-- Opcode bytes 20 to 2F of the map R115, each followed by 11 22 33, at 16-bit widths. -/
theorem test_decode_row_2 :
    readAll [0x20, 0x21, 0x22, 0x23, 0x24, 0x25, 0x26, 0x27, 0x28, 0x29, 0x2A, 0x2B, 0x2C, 0x2D, 0x2E, 0x2F] =
      [.jsrAbs 0x2211, .andDpXInd 0x11, .jsl 0x332211, .andSr 0x11, .bitDp 0x11, .andDp 0x11,
       .rolDp 0x11, .andDpIndL 0x11, .plp, .andImm 0x2211, .rolAcc, .pld,
       .bitAbs 0x2211, .andAbs 0x2211, .rolAbs 0x2211, .andLong 0x332211] := by decide

/-- Opcode bytes 30 to 3F of the map R115, each followed by 11 22 33, at 16-bit widths. -/
theorem test_decode_row_3 :
    readAll [0x30, 0x31, 0x32, 0x33, 0x34, 0x35, 0x36, 0x37, 0x38, 0x39, 0x3A, 0x3B, 0x3C, 0x3D, 0x3E, 0x3F] =
      [.bmi 0x11, .andDpIndY 0x11, .andDpInd 0x11, .andSrIndY 0x11, .bitDpX 0x11, .andDpX 0x11,
       .rolDpX 0x11, .andDpIndLY 0x11, .sec, .andAbsY 0x2211, .decAcc, .tsc,
       .bitAbsX 0x2211, .andAbsX 0x2211, .rolAbsX 0x2211, .andLongX 0x332211] := by decide

/-- Opcode bytes 40 to 4F of the map R115, each followed by 11 22 33, at 16-bit widths. -/
theorem test_decode_row_4 :
    readAll [0x40, 0x41, 0x42, 0x43, 0x44, 0x45, 0x46, 0x47, 0x48, 0x49, 0x4A, 0x4B, 0x4C, 0x4D, 0x4E, 0x4F] =
      [.rti, .eorDpXInd 0x11, .wdm 0x11, .eorSr 0x11, .mvp 0x11 0x22, .eorDp 0x11,
       .lsrDp 0x11, .eorDpIndL 0x11, .pha, .eorImm 0x2211, .lsrAcc, .phk,
       .jmpAbs 0x2211, .eorAbs 0x2211, .lsrAbs 0x2211, .eorLong 0x332211] := by decide

/-- Opcode bytes 50 to 5F of the map R115, each followed by 11 22 33, at 16-bit widths. -/
theorem test_decode_row_5 :
    readAll [0x50, 0x51, 0x52, 0x53, 0x54, 0x55, 0x56, 0x57, 0x58, 0x59, 0x5A, 0x5B, 0x5C, 0x5D, 0x5E, 0x5F] =
      [.bvc 0x11, .eorDpIndY 0x11, .eorDpInd 0x11, .eorSrIndY 0x11, .mvn 0x11 0x22, .eorDpX 0x11,
       .lsrDpX 0x11, .eorDpIndLY 0x11, .cli, .eorAbsY 0x2211, .phy, .tcd,
       .jmlLong 0x332211, .eorAbsX 0x2211, .lsrAbsX 0x2211, .eorLongX 0x332211] := by decide

/-- Opcode bytes 60 to 6F of the map R115, each followed by 11 22 33, at 16-bit widths. -/
theorem test_decode_row_6 :
    readAll [0x60, 0x61, 0x62, 0x63, 0x64, 0x65, 0x66, 0x67, 0x68, 0x69, 0x6A, 0x6B, 0x6C, 0x6D, 0x6E, 0x6F] =
      [.rts, .adcDpXInd 0x11, .per 0x2211, .adcSr 0x11, .stzDp 0x11, .adcDp 0x11,
       .rorDp 0x11, .adcDpIndL 0x11, .pla, .adcImm 0x2211, .rorAcc, .rtl,
       .jmpAbsInd 0x2211, .adcAbs 0x2211, .rorAbs 0x2211, .adcLong 0x332211] := by decide

/-- Opcode bytes 70 to 7F of the map R115, each followed by 11 22 33, at 16-bit widths. -/
theorem test_decode_row_7 :
    readAll [0x70, 0x71, 0x72, 0x73, 0x74, 0x75, 0x76, 0x77, 0x78, 0x79, 0x7A, 0x7B, 0x7C, 0x7D, 0x7E, 0x7F] =
      [.bvs 0x11, .adcDpIndY 0x11, .adcDpInd 0x11, .adcSrIndY 0x11, .stzDpX 0x11, .adcDpX 0x11,
       .rorDpX 0x11, .adcDpIndLY 0x11, .sei, .adcAbsY 0x2211, .ply, .tdc,
       .jmpAbsXInd 0x2211, .adcAbsX 0x2211, .rorAbsX 0x2211, .adcLongX 0x332211] := by decide

/-- Opcode bytes 80 to 8F of the map R115, each followed by 11 22 33, at 16-bit widths. -/
theorem test_decode_row_8 :
    readAll [0x80, 0x81, 0x82, 0x83, 0x84, 0x85, 0x86, 0x87, 0x88, 0x89, 0x8A, 0x8B, 0x8C, 0x8D, 0x8E, 0x8F] =
      [.bra 0x11, .staDpXInd 0x11, .brl 0x2211, .staSr 0x11, .styDp 0x11, .staDp 0x11,
       .stxDp 0x11, .staDpIndL 0x11, .dey, .bitImm 0x2211, .txa, .phb,
       .styAbs 0x2211, .staAbs 0x2211, .stxAbs 0x2211, .staLong 0x332211] := by decide

/-- Opcode bytes 90 to 9F of the map R115, each followed by 11 22 33, at 16-bit widths. -/
theorem test_decode_row_9 :
    readAll [0x90, 0x91, 0x92, 0x93, 0x94, 0x95, 0x96, 0x97, 0x98, 0x99, 0x9A, 0x9B, 0x9C, 0x9D, 0x9E, 0x9F] =
      [.bcc 0x11, .staDpIndY 0x11, .staDpInd 0x11, .staSrIndY 0x11, .styDpX 0x11, .staDpX 0x11,
       .stxDpY 0x11, .staDpIndLY 0x11, .tya, .staAbsY 0x2211, .txs, .txy,
       .stzAbs 0x2211, .staAbsX 0x2211, .stzAbsX 0x2211, .staLongX 0x332211] := by decide

/-- Opcode bytes A0 to AF of the map R115, each followed by 11 22 33, at 16-bit widths. -/
theorem test_decode_row_A :
    readAll [0xA0, 0xA1, 0xA2, 0xA3, 0xA4, 0xA5, 0xA6, 0xA7, 0xA8, 0xA9, 0xAA, 0xAB, 0xAC, 0xAD, 0xAE, 0xAF] =
      [.ldyImm 0x2211, .ldaDpXInd 0x11, .ldxImm 0x2211, .ldaSr 0x11, .ldyDp 0x11, .ldaDp 0x11,
       .ldxDp 0x11, .ldaDpIndL 0x11, .tay, .ldaImm 0x2211, .tax, .plb,
       .ldyAbs 0x2211, .ldaAbs 0x2211, .ldxAbs 0x2211, .ldaLong 0x332211] := by decide

/-- Opcode bytes B0 to BF of the map R115, each followed by 11 22 33, at 16-bit widths. -/
theorem test_decode_row_B :
    readAll [0xB0, 0xB1, 0xB2, 0xB3, 0xB4, 0xB5, 0xB6, 0xB7, 0xB8, 0xB9, 0xBA, 0xBB, 0xBC, 0xBD, 0xBE, 0xBF] =
      [.bcs 0x11, .ldaDpIndY 0x11, .ldaDpInd 0x11, .ldaSrIndY 0x11, .ldyDpX 0x11, .ldaDpX 0x11,
       .ldxDpY 0x11, .ldaDpIndLY 0x11, .clv, .ldaAbsY 0x2211, .tsx, .tyx,
       .ldyAbsX 0x2211, .ldaAbsX 0x2211, .ldxAbsY 0x2211, .ldaLongX 0x332211] := by decide

/-- Opcode bytes C0 to CF of the map R115, each followed by 11 22 33, at 16-bit widths. -/
theorem test_decode_row_C :
    readAll [0xC0, 0xC1, 0xC2, 0xC3, 0xC4, 0xC5, 0xC6, 0xC7, 0xC8, 0xC9, 0xCA, 0xCB, 0xCC, 0xCD, 0xCE, 0xCF] =
      [.cpyImm 0x2211, .cmpDpXInd 0x11, .rep 0x11, .cmpSr 0x11, .cpyDp 0x11, .cmpDp 0x11,
       .decDp 0x11, .cmpDpIndL 0x11, .iny, .cmpImm 0x2211, .dex, .wai,
       .cpyAbs 0x2211, .cmpAbs 0x2211, .decAbs 0x2211, .cmpLong 0x332211] := by decide

/-- Opcode bytes D0 to DF of the map R115, each followed by 11 22 33, at 16-bit widths. -/
theorem test_decode_row_D :
    readAll [0xD0, 0xD1, 0xD2, 0xD3, 0xD4, 0xD5, 0xD6, 0xD7, 0xD8, 0xD9, 0xDA, 0xDB, 0xDC, 0xDD, 0xDE, 0xDF] =
      [.bne 0x11, .cmpDpIndY 0x11, .cmpDpInd 0x11, .cmpSrIndY 0x11, .pei 0x11, .cmpDpX 0x11,
       .decDpX 0x11, .cmpDpIndLY 0x11, .cld, .cmpAbsY 0x2211, .phx, .stp,
       .jmlAbsIndL 0x2211, .cmpAbsX 0x2211, .decAbsX 0x2211, .cmpLongX 0x332211] := by decide

/-- Opcode bytes E0 to EF of the map R115, each followed by 11 22 33, at 16-bit widths. -/
theorem test_decode_row_E :
    readAll [0xE0, 0xE1, 0xE2, 0xE3, 0xE4, 0xE5, 0xE6, 0xE7, 0xE8, 0xE9, 0xEA, 0xEB, 0xEC, 0xED, 0xEE, 0xEF] =
      [.cpxImm 0x2211, .sbcDpXInd 0x11, .sep 0x11, .sbcSr 0x11, .cpxDp 0x11, .sbcDp 0x11,
       .incDp 0x11, .sbcDpIndL 0x11, .inx, .sbcImm 0x2211, .nop, .xba,
       .cpxAbs 0x2211, .sbcAbs 0x2211, .incAbs 0x2211, .sbcLong 0x332211] := by decide

/-- Opcode bytes F0 to FF of the map R115, each followed by 11 22 33, at 16-bit widths. -/
theorem test_decode_row_F :
    readAll [0xF0, 0xF1, 0xF2, 0xF3, 0xF4, 0xF5, 0xF6, 0xF7, 0xF8, 0xF9, 0xFA, 0xFB, 0xFC, 0xFD, 0xFE, 0xFF] =
      [.beq 0x11, .sbcDpIndY 0x11, .sbcDpInd 0x11, .sbcSrIndY 0x11, .pea 0x2211, .sbcDpX 0x11,
       .incDpX 0x11, .sbcDpIndLY 0x11, .sed, .sbcAbsY 0x2211, .plx, .xce,
       .jsrAbsXInd 0x2211, .sbcAbsX 0x2211, .incAbsX 0x2211, .sbcLongX 0x332211] := by decide

/-! ### The spec's vectors -/

/-- Vector V1.1 of spec/95_test_vectors (R192): m = 0 after reset: the immediate is 2 bytes, PC + 3. -/
theorem test_V1_1_lda :
    after (withBytes [(0x008000, 0xA9), (0x008001, 0x34), (0x008002, 0x12)])
      (fun t => (t.a, t.pc)) =
      some (0x1234, 0x8003) := by decide

/-- Vector V1.2 of spec/95_test_vectors (R192): m = 1: AH kept, z from 8 bits. -/
theorem test_V1_2_lda :
    after { withBytes [(0x008000, 0xA9), (0x008001, 0x00)] with a := 0xAB12, p := { Flags.reset with m := true } }
      (fun t => (t.a, t.pc, t.p.z)) =
      some (0xAB00, 0x8002, true) := by decide

/-- Vector V1.5 of spec/95_test_vectors (R195, R167): long 0xFF:FFFF, m = 0: high byte wraps to 0x00:0000. -/
theorem test_V1_5_sta :
    after { withBytes [(0x008000, 0x9F), (0x008001, 0xFF), (0x008002, 0xFF), (0x008003, 0xFF)] with a := 0x1234 }
      (fun t => (t.pc, t.load 0x000000, t.load 0xFFFFFF)) =
      some (0x8004, 0x12, 0x34) := by decide

/-- Vector V1.6 of spec/95_test_vectors (R196, R146): dp,Y in native mode carries past the page. -/
theorem test_V1_6_stx :
    after { withBytes [(0x008000, 0x96), (0x008001, 0xF0)] with x := 0x0099, y := 0x0020, d := 0x0100, p := { Flags.reset with x := true } }
      (fun t => (t.pc, t.load 0x000210)) =
      some (0x8002, 0x99) := by decide

/-- Vector V1.7 of spec/95_test_vectors (R198): m = 1: one byte cleared. -/
theorem test_V1_7_stz :
    after { withBytes [(0x000010, 0xEE), (0x000011, 0xEE), (0x008000, 0x64), (0x008001, 0x10)] with p := { Flags.reset with m := true } }
      (fun t => (t.pc, t.load 0x000010)) =
      some (0x8002, 0x00) := by decide

/-- Vector V1.8 of spec/95_test_vectors (R199): x = 1: only X[7:0] written. -/
theorem test_V1_8_tax :
    after { withBytes [(0x008000, 0xAA)] with a := 0xFF80, p := { Flags.reset with x := true } }
      (fun t => (t.x, t.pc, t.p.n)) =
      some (0x0080, 0x8001, true) := by decide

/-- Vector V1.9 of spec/95_test_vectors (R206): emulation: SP high byte forced to 0x01. -/
theorem test_V1_9_txs :
    after { withBytes [(0x008000, 0x9A)] with sp := 0x01FF, x := 0x00C0, p := { Flags.reset with m := true, x := true, e := true } }
      (fun t => (t.sp, t.pc)) =
      some (0x01C0, 0x8001) := by decide

/-- Vector V1.10 of spec/95_test_vectors (R207): m = 1 still copies 16 bits. -/
theorem test_V1_10_tcs :
    after { withBytes [(0x008000, 0x1B)] with a := 0x1234, p := { Flags.reset with m := true, e := false } }
      (fun t => (t.sp, t.pc)) =
      some (0x1234, 0x8001) := by decide

/-- Vector V1.11 of spec/95_test_vectors (R211): n, z from the new low byte at 8 bits regardless of m. -/
theorem test_V1_11_xba :
    after { withBytes [(0x008000, 0xEB)] with a := 0x00FF, p := { Flags.reset with m := false } }
      (fun t => (t.a, t.pc, t.p.z)) =
      some (0xFF00, 0x8001, true) := by decide

/-- Vector V1.12 of spec/95_test_vectors (R205): native 16-bit TSX. -/
theorem test_V1_12_tsx :
    after { withBytes [(0x008000, 0xBA)] with sp := 0x8001, p := { Flags.reset with x := false } }
      (fun t => (t.x, t.pc, t.p.n)) =
      some (0x8001, 0x8001, true) := by decide

/-- Vector V3.1 of spec/95_test_vectors (R246): 16-bit binary carry out. -/
theorem test_V3_1_adc :
    after { withBytes [(0x008000, 0x69), (0x008001, 0x01), (0x008002, 0x00)] with a := 0xFFFF }
      (fun t => (t.a, t.pc, t.p.z, t.p.c)) =
      some (0x0000, 0x8003, true, true) := by decide

/-- Vector V3.2 of spec/95_test_vectors (R246, R243): decimal 58 + 46 + 1 = 105. -/
theorem test_V3_2_adc :
    after { withBytes [(0x008000, 0x69), (0x008001, 0x46)] with a := 0x0058, p := { Flags.reset with m := true, d := true, c := true } }
      (fun t => (t.a, t.pc, t.p.v)) =
      some (0x0005, 0x8002, true) := by decide

/-- Vector V3.6 of spec/95_test_vectors (R247, R245): 16-bit decimal 1000 - 1. -/
theorem test_V3_6_sbc :
    after { withBytes [(0x008000, 0xE9), (0x008001, 0x01), (0x008002, 0x00)] with a := 0x1000, p := { Flags.reset with d := true, c := true } }
      (fun t => (t.a, t.pc)) =
      some (0x0999, 0x8003) := by decide

/-- Vector V3.7 of spec/95_test_vectors (R247): signed overflow 0x8000 - 1. -/
theorem test_V3_7_sbc :
    after { withBytes [(0x008000, 0xE9), (0x008001, 0x01), (0x008002, 0x00)] with a := 0x8000, p := { Flags.reset with c := true } }
      (fun t => (t.a, t.pc, t.p.v)) =
      some (0x7FFF, 0x8003, true) := by decide

/-- Vector V3.9 of spec/95_test_vectors (R248, D12): a >= b yet n = 1: n is the difference's top bit. -/
theorem test_V3_9_cmp :
    after { withBytes [(0x008000, 0xC9), (0x008001, 0x00)] with a := 0x0080, p := { Flags.reset with m := true } }
      (fun t => (t.pc, t.p.n, t.p.c)) =
      some (0x8002, true, true) := by decide

/-- Vector V3.10 of spec/95_test_vectors (R248): 16-bit equal. -/
theorem test_V3_10_cmp :
    after { withBytes [(0x008000, 0xC9), (0x008001, 0x34), (0x008002, 0x12)] with a := 0x1234 }
      (fun t => (t.pc, t.p.z, t.p.c)) =
      some (0x8003, true, true) := by decide

/-- Vector V3.11 of spec/95_test_vectors (R249): x = 1: compare 8 bits. -/
theorem test_V3_11_cpx :
    after { withBytes [(0x008000, 0xE0), (0x008001, 0xFF)] with x := 0x0001, p := { Flags.reset with x := true } }
      (fun t => t.pc) =
      some 0x8002 := by decide

/-- Vector V3.12 of spec/95_test_vectors (R254): 16-bit BIT: n = bit 15, v = bit 14. -/
theorem test_V3_12_bit :
    after { withBytes [(0x002000, 0x00), (0x002001, 0xC0), (0x008000, 0x2C), (0x008001, 0x00), (0x008002, 0x20)] with a := 0x0001 }
      (fun t => (t.pc, t.p.n, t.p.v, t.p.z)) =
      some (0x8003, true, true, true) := by decide

/-- Vector V3.13 of spec/95_test_vectors (R255): 16-bit TSB; z from A & m before. -/
theorem test_V3_13_tsb :
    after { withBytes [(0x002000, 0x01), (0x002001, 0x10), (0x008000, 0x0C), (0x008001, 0x00), (0x008002, 0x20)] with a := 0x00FF }
      (fun t => (t.pc, t.load 0x002000, t.load 0x002001)) =
      some (0x8003, 0xFF, 0x10) := by decide

/-- Vector V3.14 of spec/95_test_vectors (R257): INC dp wraps to 0. -/
theorem test_V3_14_inc :
    after { withBytes [(0x000010, 0xFF), (0x008000, 0xE6), (0x008001, 0x10)] with p := { Flags.reset with m := true } }
      (fun t => (t.pc, t.p.z, t.load 0x000010)) =
      some (0x8002, true, 0x00) := by decide

/-- Vector V3.15 of spec/95_test_vectors (R258, R167): 16-bit DEC dp across the bank-0 wrap. -/
theorem test_V3_15_dec :
    after { withBytes [(0x000000, 0x00), (0x008000, 0xC6), (0x008001, 0x00), (0x00FFFF, 0x00)] with d := 0xFFFF }
      (fun t => (t.pc, t.p.n, t.load 0x000000, t.load 0x00FFFF)) =
      some (0x8002, true, 0xFF, 0xFF) := by decide

/-- Vector V3.16 of spec/95_test_vectors (R263): 16-bit ASL memory. -/
theorem test_V3_16_asl :
    after (withBytes [(0x002000, 0x01), (0x002001, 0x80), (0x008000, 0x0E), (0x008001, 0x00), (0x008002, 0x20)])
      (fun t => (t.pc, t.p.c, t.load 0x002000, t.load 0x002001)) =
      some (0x8003, true, 0x02, 0x00) := by decide

/-- Vector V3.17 of spec/95_test_vectors (R266): ROR 8-bit: carry into bit 7, AH kept. -/
theorem test_V3_17_ror :
    after { withBytes [(0x008000, 0x6A)] with a := 0xAA02, p := { Flags.reset with m := true, c := true } }
      (fun t => (t.a, t.pc, t.p.n, t.p.c)) =
      some (0xAA81, 0x8001, true, false) := by decide

/-- Vector V3.18 of spec/95_test_vectors (R264): LSR: n always 0. -/
theorem test_V3_18_lsr :
    after { withBytes [(0x008000, 0x4A)] with a := 0x00FF, p := { Flags.reset with m := true } }
      (fun t => (t.a, t.pc, t.p.c)) =
      some (0x007F, 0x8001, true) := by decide

/-- Vector V3.19 of spec/95_test_vectors (R261): DEX x = 1 wraps to 0xFF. -/
theorem test_V3_19_dex :
    after { withBytes [(0x008000, 0xCA)] with x := 0x0000, p := { Flags.reset with x := true } }
      (fun t => (t.x, t.pc, t.p.n)) =
      some (0x00FF, 0x8001, true) := by decide

/-- Vector V3.20 of spec/95_test_vectors (R253): EOR with itself: z = 1. -/
theorem test_V3_20_eor :
    after { withBytes [(0x008000, 0x49), (0x008001, 0xFF), (0x008002, 0xFF)] with a := 0xFFFF }
      (fun t => (t.a, t.pc, t.p.z)) =
      some (0x0000, 0x8003, true) := by decide

/-- Vector V3.21 of spec/95_test_vectors (R257, R164): §8 scenario: INC A at 16 bits; c, v kept. -/
theorem test_V3_21_inc :
    after { withBytes [(0x008000, 0x1A)] with a := 0xFFFF, p := { Flags.reset with c := true, v := true } }
      (fun t => (t.a, t.pc, t.p.z)) =
      some (0x0000, 0x8001, true) := by decide

/-- Vector V4.1 of spec/95_test_vectors (R309): BEQ not taken: PC + 2. -/
theorem test_V4_1_beq :
    after { withBytes [(0x008000, 0xF0), (0x008001, 0x10)] with p := { Flags.reset with z := false } }
      (fun t => t.pc) =
      some 0x8002 := by decide

/-- Vector V4.2 of spec/95_test_vectors (R308): BNE backward taken, d = -4. -/
theorem test_V4_2_bne :
    after { withBytes [(0x008000, 0xD0), (0x008001, 0xFC)] with p := { Flags.reset with z := false } }
      (fun t => t.pc) =
      some 0x7FFE := by decide

/-- Vector V4.3 of spec/95_test_vectors (R310, R162): target wraps in bank 0x05. -/
theorem test_V4_3_bra :
    after { withBytes [(0x05FFF0, 0x80), (0x05FFF1, 0x7F)] with pbr := 0x05, pc := 0xFFF0 }
      (fun t => t.pc) =
      some 0x0071 := by decide

/-- Vector V4.4 of spec/95_test_vectors (R312, R157): JMP (abs): pointer bytes wrap in bank 0; PBR kept. -/
theorem test_V4_4_jmp :
    after { withBytes [(0x000000, 0x90), (0x00FFFF, 0x00), (0x028000, 0x6C), (0x028001, 0xFF), (0x028002, 0xFF)] with pbr := 0x02, pc := 0x8000 }
      (fun t => t.pc) =
      some 0x9000 := by decide

/-- Vector V4.5 of spec/95_test_vectors (R312, R159): JMP (abs,X): pointer in bank PBR. -/
theorem test_V4_5_jmp :
    after { withBytes [(0x128000, 0x7C), (0x128001, 0x00), (0x128002, 0x90), (0x129002, 0x34), (0x129003, 0x12)] with pbr := 0x12, pc := 0x8000, x := 0x0002, p := { Flags.reset with x := false } }
      (fun t => t.pc) =
      some 0x1234 := by decide

/-- Vector V4.6 of spec/95_test_vectors (R313, R158): JML [abs]. -/
theorem test_V4_6_jml :
    after (withBytes [(0x000300, 0x00), (0x000301, 0x80), (0x000302, 0x7E), (0x008000, 0xDC), (0x008001, 0x00), (0x008002, 0x03)])
      (fun t => t.pbr) =
      some 0x7E := by decide

/-- Vector V4.7 of spec/95_test_vectors (R314, R93): JSR (abs,X) in emulation: pushes wrap within page 1. -/
theorem test_V4_7_jsr :
    after { withBytes [(0x008000, 0xFC), (0x008001, 0x00), (0x008002, 0x90), (0x009000, 0x00), (0x009001, 0xA0)] with sp := 0x0100, x := 0x0000, p := { Flags.reset with m := true, x := true, e := true } }
      (fun t => (t.sp, t.pc, t.load 0x000100, t.load 0x0001FF)) =
      some (0x01FE, 0xA000, 0x80, 0x02) := by decide

/-- Vector V4.8 of spec/95_test_vectors (R316): RTS from 0xFFFF: PC = 0x0000, PBR kept. -/
theorem test_V4_8_rts :
    after { withBytes [(0x0001FE, 0xFF), (0x0001FF, 0xFF), (0x038000, 0x60)] with pbr := 0x03, pc := 0x8000, sp := 0x01FD }
      (fun t => (t.sp, t.pc)) =
      some (0x01FF, 0x0000) := by decide

/-- Vector V4.9 of spec/95_test_vectors (R317): RTL: increment does not carry into PBR. -/
theorem test_V4_9_rtl :
    after { withBytes [(0x0001FD, 0xFF), (0x0001FE, 0xFF), (0x0001FF, 0x02), (0x008000, 0x6B)] with sp := 0x01FC }
      (fun t => (t.sp, t.pbr, t.pc)) =
      some (0x01FF, 0x02, 0x0000) := by decide

/-- Vector V4.10 of spec/95_test_vectors (R311): BRL wraps within the bank. -/
theorem test_V4_10_brl :
    after { withBytes [(0x00FFF0, 0x82), (0x00FFF1, 0xF0), (0x00FFF2, 0x7F)] with pbr := 0x00, pc := 0xFFF0 }
      (fun t => t.pc) =
      some 0x7FE3 := by decide

/-- Vector V5.1 of spec/95_test_vectors (R342): m = 1: one byte. -/
theorem test_V5_1_pha :
    after { withBytes [(0x008000, 0x48)] with a := 0x1234, sp := 0x01FF, p := { Flags.reset with m := true } }
      (fun t => (t.sp, t.pc, t.load 0x0001FF)) =
      some (0x01FE, 0x8001, 0x34) := by decide

/-- Vector V5.2 of spec/95_test_vectors (R91, R95): reset SP = 0: native push wraps to 0xFFFF. -/
theorem test_V5_2_pha :
    after { withBytes [(0x008000, 0x48)] with a := 0xBEEF }
      (fun t => (t.sp, t.pc, t.load 0x000000, t.load 0x00FFFF)) =
      some (0xFFFE, 0x8001, 0xBE, 0xEF) := by decide

/-- Vector V5.4 of spec/95_test_vectors (R357, R46): emulation PLP ignores bits 5 and 4. -/
theorem test_V5_4_plp :
    after { withBytes [(0x0001FF, 0xCF), (0x008000, 0x28)] with sp := 0x01FE, p := { Flags.reset with m := true, x := true, e := true } }
      (fun t => ((t.sp, t.pc, t.p.n), (t.p.v, t.p.d, t.p.i), (t.p.z, t.p.c))) =
      some ((0x01FF, 0x8001, true), (true, true, true), (true, true)) := by decide

/-- Vector V5.5 of spec/95_test_vectors (R357, R47): native PLP with x = 1 clears XH, YH. -/
theorem test_V5_5_plp :
    after { withBytes [(0x0001FF, 0x10), (0x008000, 0x28)] with x := 0xABCD, y := 0x1234, sp := 0x01FE, p := { Flags.reset with x := false } }
      (fun t => (t.x, t.y, t.sp, t.pc, t.p.x)) =
      some (0x00CD, 0x0034, 0x01FF, 0x8001, true) := by decide

/-- Vector V5.6 of spec/95_test_vectors (R348): native PHP, m = x = 0. -/
theorem test_V5_6_php :
    after { withBytes [(0x008000, 0x08)] with sp := 0x01FF, p := { Flags.reset with n := true, v := true, d := true, i := true, z := true, c := true } }
      (fun t => (t.sp, t.pc, t.load 0x0001FF)) =
      some (0x01FE, 0x8001, 0xCF) := by decide

/-- Vector V5.7 of spec/95_test_vectors (R351): PER backward: 0x8003 + 0xF000. -/
theorem test_V5_7_per :
    after { withBytes [(0x008000, 0x62), (0x008001, 0x00), (0x008002, 0xF0)] with sp := 0x01FF }
      (fun t => (t.sp, t.pc, t.load 0x0001FE, t.load 0x0001FF)) =
      some (0x01FD, 0x8003, 0x03, 0x70) := by decide

/-- Vector V5.8 of spec/95_test_vectors (R355): PLB: n = 1. -/
theorem test_V5_8_plb :
    after { withBytes [(0x0001FF, 0x80), (0x008000, 0xAB)] with sp := 0x01FE }
      (fun t => (t.sp, t.dbr, t.pc, t.p.n)) =
      some (0x01FF, 0x80, 0x8001, true) := by decide

/-- Vector V5.9 of spec/95_test_vectors (R356): emulation PLD: pulls wrap within page 1. -/
theorem test_V5_9_pld :
    after { withBytes [(0x000100, 0x34), (0x000101, 0x12), (0x008000, 0x2B)] with sp := 0x01FF, p := { Flags.reset with m := true, x := true, e := true } }
      (fun t => (t.sp, t.d, t.pc)) =
      some (0x0101, 0x1234, 0x8001) := by decide

/-- Vector V5.10 of spec/95_test_vectors (R352): 16-bit PLA: n from bit 15. -/
theorem test_V5_10_pla :
    after { withBytes [(0x0001FE, 0x00), (0x0001FF, 0x80), (0x008000, 0x68)] with sp := 0x01FD }
      (fun t => (t.a, t.sp, t.pc, t.p.n)) =
      some (0x8000, 0x01FF, 0x8001, true) := by decide

/-- Vector V5.11 of spec/95_test_vectors (R350): PEI pointer wraps in bank 0. -/
theorem test_V5_11_pei :
    after { withBytes [(0x000000, 0x22), (0x008000, 0xD4), (0x008001, 0xFF), (0x00FFFF, 0x11)] with d := 0xFF00, sp := 0x01FF }
      (fun t => (t.sp, t.pc, t.load 0x0001FE, t.load 0x0001FF)) =
      some (0x01FD, 0x8002, 0x11, 0x22) := by decide

/-- Vector V5.12 of spec/95_test_vectors (R348, D22): emulation PHP: bits 5 and 4 pushed as 1 with b = 0. -/
theorem test_V5_12_php :
    after { withBytes [(0x008000, 0x08)] with sp := 0x01FF, p := { Flags.reset with m := true, x := true, e := true, b := false, c := true } }
      (fun t => (t.sp, t.pc, t.load 0x0001FF)) =
      some (0x01FE, 0x8001, 0x31) := by decide

/-- Vector V6.1 of spec/95_test_vectors (R388, R47): REP in emulation: m, x stay 1. -/
theorem test_V6_1_rep :
    after { withBytes [(0x008000, 0xC2), (0x008001, 0xFF)] with sp := 0x01FF, p := { Flags.reset with m := true, x := true, e := true, n := true, c := true } }
      (fun t => (t.pc, t.p.n, t.p.c)) =
      some (0x8002, false, false) := by decide

/-- Vector V6.2 of spec/95_test_vectors (R389, R47): SEP #$10 clears XH, YH. -/
theorem test_V6_2_sep :
    after { withBytes [(0x008000, 0xE2), (0x008001, 0x10)] with x := 0x1234, y := 0x5678 }
      (fun t => (t.x, t.y, t.pc, t.p.x)) =
      some (0x0034, 0x0078, 0x8002, true) := by decide

/-- Vector V6.3 of spec/95_test_vectors (R390): enter emulation. -/
theorem test_V6_3_xce :
    after { withBytes [(0x008000, 0xFB)] with sp := 0x1234, x := 0xFFFF, y := 0x0100, a := 0xBEEF, p := { Flags.reset with c := true } }
      (fun t => ((t.x, t.y, t.sp), (t.pc, t.p.e, t.p.m), (t.p.x, t.p.c))) =
      some ((0x00FF, 0x0000, 0x0134), (0x8001, true, true), (true, false)) := by decide

/-- Vector V6.4 of spec/95_test_vectors (R390, D31): leave emulation: m = x = 1 kept, c = 1. -/
theorem test_V6_4_xce :
    after { withBytes [(0x008000, 0xFB)] with sp := 0x01FF, p := { Flags.reset with m := true, x := true, e := true, c := false } }
      (fun t => (t.pc, t.p.e, t.p.c)) =
      some (0x8001, false, true) := by decide

/-- Vector V6.6 of spec/95_test_vectors (R395, R440): emulation BRK: vector 0xFFFE, 3 bytes, b = 1 in bit 4. -/
theorem test_V6_6_brk :
    after { withBytes [(0x008000, 0x00), (0x008001, 0x99), (0x00FFFE, 0x00), (0x00FFFF, 0xE0)] with sp := 0x01FF, p := { Flags.reset with m := true, x := true, e := true, d := true, c := true } }
      (fun t => ((t.sp, t.pc, t.p.d), (t.p.i, t.p.b, t.load 0x0001FD), (t.load 0x0001FE, t.load 0x0001FF))) =
      some ((0x01FC, 0xE000, false), (true, true, 0x39), (0x02, 0x80)) := by decide

/-- Vector V6.7 of spec/95_test_vectors (R396, R440): emulation COP: vector 0xFFF4. -/
theorem test_V6_7_cop :
    after { withBytes [(0x008000, 0x02), (0x008001, 0x00), (0x00FFF4, 0x00), (0x00FFF5, 0xE1)] with sp := 0x01FF, p := { Flags.reset with m := true, x := true, e := true } }
      (fun t => ((t.sp, t.pc, t.p.i), (t.p.b, t.load 0x0001FD, t.load 0x0001FE), t.load 0x0001FF)) =
      some ((0x01FC, 0xE100, true), (true, 0x30, 0x02), 0x80) := by decide

/-- Vector V6.8 of spec/95_test_vectors (R397): emulation RTI: 3 bytes, no PBR; m, x stay 1. -/
theorem test_V6_8_rti :
    after { withBytes [(0x0001FD, 0xFF), (0x0001FE, 0x34), (0x0001FF, 0x12), (0x008000, 0x40)] with sp := 0x01FC, p := { Flags.reset with m := true, x := true, e := true } }
      (fun t => ((t.sp, t.pc, t.p.n), (t.p.v, t.p.d, t.p.i), (t.p.z, t.p.c))) =
      some ((0x01FF, 0x1234, true), (true, true, true), (true, true)) := by decide

/-- Vector V6.9 of spec/95_test_vectors (R397): native RTI: 4 bytes, x = 1 clears XH. -/
theorem test_V6_9_rti :
    after { withBytes [(0x0001FC, 0x30), (0x0001FD, 0x00), (0x0001FE, 0x90), (0x0001FF, 0x05), (0x008000, 0x40)] with sp := 0x01FB, x := 0x1234 }
      (fun t => ((t.x, t.sp, t.pbr), (t.pc, t.p.m, t.p.x))) =
      some ((0x0034, 0x01FF, 0x05), (0x9000, true, true)) := by decide

/-- Vector V6.10 of spec/95_test_vectors (R392): P_WDM = nop2. -/
theorem test_V6_10_wdm :
    after { withBytes [(0x008000, 0x42), (0x008001, 0x00)] with params := { calm with wdm := .nop2 } }
      (fun t => t.pc) =
      some 0x8002 := by decide

/-- Vector V6.11 of spec/95_test_vectors (R392, R447): P_WDM = fault (default). -/
theorem test_V6_11_wdm :
    after (withBytes [(0x008000, 0x42), (0x008001, 0x00)])
      (fun t => (t.pc, t.run)) =
      some (0x8001, .faulted .unmappedOpcode 0x00 0x8000 0x42) := by decide

/-- Vector V7.1 of spec/95_test_vectors (R422): A = 0: one byte; x = 1 wraps X to 0x00. -/
theorem test_V7_1_mvn :
    after { withBytes [(0x008000, 0x54), (0x008001, 0x01), (0x008002, 0x02), (0x0200FF, 0x5E)] with a := 0x0000, x := 0x00FF, y := 0x0000, p := { Flags.reset with x := true } }
      (fun t => ((t.a, t.x, t.y), (t.dbr, t.pc, t.load 0x010000))) =
      some ((0xFFFF, 0x0000, 0x0001), (0x01, 0x8003, 0x5E)) := by decide

/-- Vector V7.4 of spec/95_test_vectors (R421, R442): IRQ between iterations pushes PC = I0. -/
theorem test_V7_4_mvn :
    after { withBytes [(0x008000, 0x54), (0x008001, 0x00), (0x008002, 0x00), (0x00FFEE, 0x00), (0x00FFEF, 0xC0)] with a := 0x0001, x := 0x1000, y := 0x2000, sp := 0x01FF, cyc := 1, irqLine := true, params := { calm with timing := .budget (.table []) 1 } }
      (fun t => ((t.a, t.x, t.y), (t.sp, t.pc, t.p.i), (t.load 0x0001FC, t.load 0x0001FD))) =
      some ((0x0000, 0x1001, 0x2001), (0x01FB, 0xC000, true), (0x00, 0x00)) := by decide

/-- Vector V7.5 of spec/95_test_vectors (R421, D42): m = 1 still decrements 16 bits: A = 0x00FF, repeats. -/
theorem test_V7_5_mvn :
    after { withBytes [(0x008000, 0x54), (0x008001, 0x00), (0x008002, 0x00)] with a := 0x0100, x := 0x1000, y := 0x2000, p := { Flags.reset with m := true } }
      (fun t => (t.a, t.x, t.y, t.load 0x002000)) =
      some (0x00FF, 0x1001, 0x2001, 0x00) := by decide

/-- Vector V8.1 of spec/95_test_vectors (R436, R451): exit wins: nmi_pending stays 1. -/
theorem test_V8_1_nop :
    after { withBytes [(0x008000, 0xEA)] with cyc := 1, exitRequest := true, nmiPending := true, params := { calm with timing := .budget (.table []) 1 } }
      (fun t => (t.pc, t.run, t.nmiPending)) =
      some (0x8001, .terminated, true) := by decide

/-- Vector V8.2 of spec/95_test_vectors (R436, R442): NMI taken with i = 1; pushes PC = 0x8001. -/
theorem test_V8_2_nop :
    after { withBytes [(0x008000, 0xEA), (0x00FFEA, 0x00), (0x00FFEB, 0xB0)] with sp := 0x01FF, cyc := 1, nmiPending := true, p := { Flags.reset with i := true }, params := { calm with timing := .budget (.table []) 1 } }
      (fun t => ((t.sp, t.pc, t.load 0x0001FC), (t.load 0x0001FD, t.load 0x0001FE, t.load 0x0001FF))) =
      some ((0x01FB, 0xB000, 0x04), (0x01, 0x80, 0x00)) := by decide

/-- Vector V8.3 of spec/95_test_vectors (R436): IRQ masked: nothing. -/
theorem test_V8_3_nop :
    after { withBytes [(0x008000, 0xEA)] with cyc := 1, irqLine := true, p := { Flags.reset with i := true }, params := { calm with timing := .budget (.table []) 1 } }
      (fun t => t.pc) =
      some 0x8001 := by decide

/-- Vector V8.4 of spec/95_test_vectors (R436, R440): emulation IRQ: b = 0 in bit 4, vector 0xFFFE. -/
theorem test_V8_4_nop :
    after { withBytes [(0x008000, 0xEA), (0x00FFFE, 0x00), (0x00FFFF, 0xE0)] with sp := 0x01FF, cyc := 1, irqLine := true, p := { Flags.reset with m := true, x := true, e := true }, params := { calm with timing := .budget (.table []) 1 } }
      (fun t => ((t.sp, t.pc, t.p.i), (t.load 0x0001FD, t.load 0x0001FE, t.load 0x0001FF))) =
      some ((0x01FC, 0xE000, true), (0x20, 0x01, 0x80)) := by decide

/-- Vector V8.5 of spec/95_test_vectors (R431, R448): a faulting step does not poll. -/
theorem test_V8_5_wdm :
    after { withBytes [(0x008000, 0x42)] with cyc := 1, nmiPending := true, params := { calm with timing := .budget (.table []) 1 } }
      (fun t => (t.pc, t.nmiPending, t.run)) =
      some (0x8001, true, .faulted .unmappedOpcode 0x00 0x8000 0x42) := by decide

/-- Vector V8.7 of spec/95_test_vectors (R431, R435): same start, one step: cyc = 1, no poll yet. -/
theorem test_V8_7_nop :
    after { withBytes [(0x008000, 0xEA), (0x008001, 0xEA), (0x008002, 0xEA)] with sp := 0x01FF, cyc := 2, irqLine := true, params := { calm with timing := .budget (.table []) 2 } }
      (fun t => t.pc) =
      some 0x8001 := by decide

/-- Vector V9.3 of spec/95_test_vectors (R483, R436): i = 0 at reset: IRQ at the first poll; SP = 0 wraps. -/
theorem test_V9_3_nop :
    after { withBytes [(0x008000, 0xEA), (0x00FFEE, 0x00), (0x00FFEF, 0xC0)] with cyc := 1, irqLine := true, params := { calm with timing := .budget (.table []) 1 } }
      (fun t => ((t.sp, t.pc, t.p.i), (t.load 0x000000, t.load 0x00FFFD, t.load 0x00FFFE), t.load 0x00FFFF)) =
      some ((0xFFFC, 0xC000, true), (0x00, 0x00, 0x01), 0x80) := by decide

/-! ### The rules' examples, for instructions that no vector covers -/

/-- R193: x = 0, `A2 34 12`. -/
theorem test_ldx : ran (.ldxImm 0x1234) (withBytes []) (fun t => (t.x, t.p.n, t.p.z, t.pc)) =
    some (0x1234, false, false, 0x8003) := by decide

/-- R194: x = 1, `A0 80`. -/
theorem test_ldy : ran (.ldyImm 0x0080) { withBytes [] with p := narrow } (fun t => (t.y, t.p.n, t.p.z, t.pc)) =
    some (0x0080, true, false, 0x8002) := by decide

/-- R197: x = 0, Y = 0x1234, DBR = 0, `8C 00 03`. -/
theorem test_sty : ran (.styAbs 0x0300) { withBytes [] with y := 0x1234 } (fun t => (t.load 0x000300, t.load 0x000301)) =
    some (0x34, 0x12) := by decide

/-- R200: x = 1, A = 0x1200. -/
theorem test_tay : ran .tay { withBytes [] with a := 0x1200, p := narrow } (fun t => (t.y, t.p.z)) =
    some (0x0000, true) := by decide

/-- R201: m = 0, x = 1, X = 0x0080. -/
theorem test_txa : ran .txa { withBytes [] with a := 0x1234, x := 0x0080, p := { Flags.reset with x := true } }
    (fun t => (t.a, t.p.n)) = some (0x0080, false) := by decide

/-- R202: m = 1, A = 0x1234, Y = 0x0099. -/
theorem test_tya : ran .tya { withBytes [] with a := 0x1234, y := 0x0099, p := narrow } (fun t => (t.a, t.p.n)) =
    some (0x1299, true) := by decide

/-- R203: x = 0, X = 0x8000. -/
theorem test_txy : ran .txy { withBytes [] with x := 0x8000 } (fun t => (t.y, t.p.n)) = some (0x8000, true) := by decide

/-- R204: x = 0, Y = 0. -/
theorem test_tyx : ran .tyx { withBytes [] with x := 0x1234 } (fun t => (t.x, t.p.z)) = some (0x0000, true) := by decide

/-- R208: SP = 0x01FF. -/
theorem test_tsc : ran .tsc { withBytes [] with sp := 0x01FF } (fun t => (t.a, t.p.n, t.p.z)) =
    some (0x01FF, false, false) := by decide

/-- R209: A = 0. -/
theorem test_tcd : ran .tcd { withBytes [] with d := 0x1234 } (fun t => (t.d, t.p.z)) = some (0x0000, true) := by decide

/-- R210: D = 0x8000. -/
theorem test_tdc : ran .tdc { withBytes [] with d := 0x8000, p := narrow } (fun t => (t.a, t.p.n)) =
    some (0x8000, true) := by decide

/-- R250: x = 1, Y = 0x10, operand 0x10. -/
theorem test_cpy : ran (.cpyImm 0x0010) { withBytes [] with y := 0x0010, p := narrow }
    (fun t => (t.p.c, t.p.z, t.p.n)) = some (true, true, false) := by decide

/-- R251: m = 1, A = 0xF0, operand 0x3C. -/
theorem test_and : ran (.andImm 0x003C) { withBytes [] with a := 0x00F0, p := narrow } (fun t => (t.a, t.p.n, t.p.z)) =
    some (0x0030, false, false) := by decide

/-- R252: m = 0, A = 0x00F0, operand 0x8000. -/
theorem test_ora : ran (.oraImm 0x8000) { withBytes [] with a := 0x00F0 } (fun t => (t.a, t.p.n)) =
    some (0x80F0, true) := by decide

/-- R256: m = 1, A = 0x0F, memory 0xFF. -/
theorem test_trb : ran (.trbDp 0x10) { withBytes [(0x10, 0xFF)] with a := 0x000F, p := narrow }
    (fun t => (t.load 0x000010, t.p.z)) = some (0xF0, false) := by decide

/-- R259: x = 1, X = 0x00FF. -/
theorem test_inx : ran .inx { withBytes [] with x := 0x00FF, p := narrow } (fun t => (t.x, t.p.z)) =
    some (0x0000, true) := by decide

/-- R260: x = 0, Y = 0x7FFF. -/
theorem test_iny : ran .iny { withBytes [] with y := 0x7FFF } (fun t => (t.y, t.p.n)) = some (0x8000, true) := by decide

/-- R262: x = 1, Y = 0. -/
theorem test_dey : ran .dey { withBytes [] with p := narrow } (fun t => (t.y, t.p.n)) = some (0x00FF, true) := by decide

/-- R265: m = 1, A = 0x80, c = 1. -/
theorem test_rol : ran .rolAcc { withBytes [] with a := 0x0080, p := { narrow with c := true } }
    (fun t => (t.a, t.p.c, t.p.n)) = some (0x0001, true, false) := by decide

/-- R302 and R303: I0 = 0x8000, n = 0, `10 05` and `30 05`. -/
theorem test_bpl_bmi : (ran (.bpl 0x05) (withBytes []) (·.pc), ran (.bmi 0x05) (withBytes []) (·.pc)) =
    (some 0x8007, some 0x8002) := by decide

/-- R304 and R305: I0 = 0x9000, `50 80` with v = 0 and `70 7F` with v = 1. -/
theorem test_bvc_bvs : (ran (.bvc 0x80) { withBytes [] with pc := 0x9000 } (·.pc),
      ran (.bvs 0x7F) { withBytes [] with pc := 0x9000, p := { Flags.reset with v := true } } (·.pc)) =
    (some 0x8F82, some 0x9081) := by decide

/-- R306 and R307: `90 10` at 0xFFFE with c = 0 and `B0 F0` at 0x0000 with c = 1 wrap in the bank. -/
theorem test_bcc_bcs : (ran (.bcc 0x10) { withBytes [] with pc := 0xFFFE } (fun t => (t.pc, t.pbr)),
      ran (.bcs 0xF0) { withBytes [] with pc := 0x0000, p := { Flags.reset with c := true } } (fun t => (t.pc, t.pbr))) =
    (some (0x0010, 0x00), some (0xFFF2, 0x00)) := by decide

/-- R315: SP = 0x01FF, `22 00 90 01` at 0x8000. -/
theorem test_jsl : ran (.jsl 0x019000) { withBytes [] with sp := 0x01FF }
    (fun t => ((t.load 0x0001FF, t.load 0x0001FE, t.load 0x0001FD), t.sp, t.pbr, t.pc)) =
    some ((0x00, 0x80, 0x03), 0x01FC, 0x01, 0x9000) := by decide

/-- R343 and R344: PHX at x = 1 and PHY at x = 0. -/
theorem test_phx_phy : (ran .phx { withBytes [] with x := 0x0042, sp := 0x01FF, p := narrow }
        (fun t => (t.load 0x0001FF, t.sp)),
      ran .phy { withBytes [] with y := 0xABCD, sp := 0x1000 } (fun t => (t.load 0x001000, t.load 0x000FFF, t.sp))) =
    (some (0x42, 0x01FE), some (0xAB, 0xCD, 0x0FFE)) := by decide

/-- R345 and R347: PHB with DBR = 0x7E and PHK with PBR = 0xC0. -/
theorem test_phb_phk : (ran .phb { withBytes [] with dbr := 0x7E, sp := 0x01FF } (fun t => (t.load 0x0001FF, t.sp)),
      ran .phk { withBytes [] with pbr := 0xC0, sp := 0x01FF } (fun t => (t.load 0x0001FF, t.sp))) =
    (some (0x7E, 0x01FE), some (0xC0, 0x01FE)) := by decide

/-- R346: P.e = 1, D = 0x2100, SP = 0x0100: the pushes stay in page 1. -/
theorem test_phd : ran .phd { withBytes [] with d := 0x2100, sp := 0x0100, p := emulation }
    (fun t => (t.load 0x000100, t.load 0x0001FF, t.sp)) = some (0x21, 0x00, 0x01FE) := by decide

/-- R349: SP = 0x01FF, `F4 34 12`. -/
theorem test_pea : ran (.pea 0x1234) { withBytes [] with sp := 0x01FF }
    (fun t => (t.load 0x0001FF, t.load 0x0001FE, t.sp)) = some (0x12, 0x34, 0x01FD) := by decide

/-- R353 and R354: PLX at x = 0 and PLY at x = 1. -/
theorem test_plx_ply : (ran .plx { withBytes [(0x01FF, 0x80)] with sp := 0x01FD } (fun t => (t.x, t.p.n, t.sp)),
      ran .ply { withBytes [] with y := 0x0055, sp := 0x01FE, p := narrow } (fun t => (t.y, t.p.z))) =
    (some (0x8000, true, 0x01FF), some (0x0000, true)) := by decide

/-- R381 to R387: each flag instruction writes its flag (CLC SEC CLI SEI CLD SED CLV). -/
theorem test_flag_instructions :
    let on := { withBytes [] with p := { Flags.reset with c := true, i := true, d := true, v := true } }
    let off := withBytes []
    [ran .clc on (·.p.c), ran .sec off (·.p.c), ran .cli on (·.p.i), ran .sei off (·.p.i), ran .cld on (·.p.d),
      ran .sed off (·.p.d), ran .clv on (·.p.v)] =
      [some false, some true, some false, some true, some false, some true, some false] := by decide

/-- R391, R393, R394: NOP, WAI and STP at 0x8000. -/
theorem test_nop_wai_stp :
    [ran .nop (withBytes []) (fun t => (t.run, t.pc)), ran .wai (withBytes []) (fun t => (t.run, t.pc)),
      ran .stp (withBytes []) (fun t => (t.run, t.pc))] =
      [some (.running, 0x8001), some (.halted, 0x8001), some (.halted, 0x8001)] := by decide

/-- R395: the native BRK of the example, PBR = 0x01, SP = 0x01FF, vector bytes `00 C0` at 0xFFE6. -/
theorem test_brk_native : ran (.brk 0xEA) { withBytes [(0xFFE7, 0xC0)] with pbr := 0x01, sp := 0x01FF }
    (fun t => ((t.load 0x0001FF, t.load 0x0001FE, t.load 0x0001FD, t.load 0x0001FC), t.sp, t.p.i, t.pbr, t.pc)) =
    some ((0x01, 0x80, 0x02, 0x00), 0x01FB, true, 0x00, 0xC000) := by decide

/-- R423: the first iteration of the MVP example, A = 1, X = 0x1001, Y = 0x2001: PC stays. -/
theorem test_mvp : ran (.mvp 0x00 0x00) { withBytes [(0x1001, 0x5A)] with a := 0x0001, x := 0x1001, y := 0x2001 }
    (fun t => (t.load 0x002001, t.x, t.y, t.a, t.pc)) = some (0x5A, 0x1000, 0x2000, 0x0000, 0x8000) := by decide

/-- R438, R436: a Halted step with IRQ raised and masked resumes without entering a handler. -/
theorem test_wake_masked : after { withBytes [] with run := .halted, irqLine := true, p := { Flags.reset with i := true } }
    (fun t => (t.run, t.pc)) = some (.running, 0x8000) := by decide

/-- R482: the reset state, at the entry this model names (log entry 2). -/
theorem test_reset : (State.reset.p, State.reset.run, State.reset.a, State.reset.sp, State.reset.mem) =
    (Flags.reset, .running, 0x0000, 0x0000, []) := by decide

/-- R85, D37: the accesses of STA at m = 0 as a collaborator sees them, newest first: the low byte, then the high byte. -/
theorem test_bus_sta : ran (.staAbs 0x0300) { withBytes [] with a := 0x1234, params := shared } (·.bus) =
    some [.write 0x000301 0x12, .write 0x000300 0x34] := by decide

/-- R91, R92, R315: the accesses of JSL: the bank, then the offset's high byte and low byte. -/
theorem test_bus_jsl : ran (.jsl 0x019000) { withBytes [] with pbr := 0x02, sp := 0x01FF, params := shared } (·.bus) =
    some [.write 0x0001FD 0x03, .write 0x0001FE 0x80, .write 0x0001FF 0x02] := by decide

/-- R422, R423: a block move reads its source byte and then writes its destination. -/
theorem test_bus_mvn : ran (.mvn 0x7E 0x7F) { withBytes [] with x := 0x1000, y := 0x2000, params := shared }
    (fun t => t.bus.map fun e => match e with | .read a => (true, a) | .write a _ => (false, a) | .outside _ => (true, 0)) =
    some [(false, 0x7E2000), (true, 0x7F1000)] := by decide

/-- R96, R314: JSR (addr,X) reads its pointer in bank PBR before it pushes. -/
theorem test_bus_jsr_indirect :
    ran (.jsrAbsXInd 0xFFFE) { withBytes [] with x := 0x0001, pbr := 0x02, sp := 0x01FF, params := shared } (·.bus) =
    some [.write 0x0001FE 0x02, .write 0x0001FF 0x80, .read 0x020000, .read 0x02FFFF] := by decide

/-- R437: where timing is not fixed every Running step makes one draw. -/
theorem test_draw : after { withBytes [(0x8000, 0xEA)] with params := Params.default } (fun t => (t.draws, t.pc)) =
    some (1, 0x8001) := by decide

/-- R450: the host's moves on the inputs and on memory. -/
theorem test_host_moves :
    ((withBytes []).requestExit.exitRequest, (withBytes []).raiseNmi.nmiPending, ((withBytes []).setIrq true).irqLine,
      (withBytes []).replaceMemory.params.memory, ((withBytes []).replaceMemory.busEvent 7).bus, ((withBytes []).busEvent 7).bus) =
      (true, true, true, .bus, [.outside 7], []) := by decide

/-- The placed word of opcode 0xEA, NOP, is what the next step fetches. -/
theorem test_withFetchWord : (State.reset.withFetchWord 8 0xEA).fetch = .nop := by decide

/-! ### Witnesses: for each obligation with hypotheses, values that meet them, clause by clause -/

/-- DecodeOfEncodeIsIdentity: an immediate at the top of each width. -/
theorem witness_DecodeOfEncodeIsIdentity :
    (Instr.ldaImm 0x00FF).wellFormed true true = true ∧ (Instr.ldaImm 0xFFFF).wellFormed false true = true ∧
      (Instr.ldxImm 0x00FF).wellFormed true true = true ∧ (Instr.jmlLong 0xFFFFFF).wellFormed true true = true := by decide

/-- EncodeOfDecodeIsIdentity: a decoded list with and without bytes left. -/
theorem witness_EncodeOfDecodeIsIdentity :
    decode true true [0xA9, 0xFF, 0x00] = .ok (.ldaImm 0x00FF, [0x00]) ∧
      decode false false [0xFF, 0xFF, 0xFF, 0xFF] = .ok (.sbcLongX 0xFFFFFF, []) := ⟨rfl, rfl⟩

/-- OpcodeByteAloneSelectsInstruction: two instructions of one opcode, and an instruction whose length changes. -/
theorem witness_OpcodeByteAloneSelectsInstruction :
    (Instr.ldaImm 0x0000).opcode = (Instr.ldaImm 0xFFFF).opcode ∧
      (Instr.ldaImm 0x0000).length true false ≠ (Instr.ldaImm 0x0000).length false false := by decide

/-- AccumulatorOpcodeRegularity: the first mode, the last, the exception, and an operation of the eight. -/
theorem witness_AccumulatorOpcodeRegularity :
    ((Instr.oraDpXInd 0x00).opcode.toNat % 32 = 0x01 ∧ (Instr.oraDpXInd 0x00).opcode ≠ 0x89) ∧
      ((Instr.sbcLongX 0xFFFFFF).opcode.toNat % 32 = 0x1F ∧ (Instr.sbcLongX 0xFFFFFF).opcode ≠ 0x89) ∧
      (Instr.bitImm 0x0000).opcode = 0x89 ∧
      (Instr.staDp 0x00).mnemonic ∈ ([.ora, .and, .eor, .adc, .sta, .lda, .cmp, .sbc] : List Mnemonic) := by decide

/-- OperandWriteReadsBack, and each statement with plain RAM for a hypothesis or a collaborator: a state of each kind. -/
theorem witness_memory_kinds :
    (withBytes [(0xFFFFFF, 0x01)]).params.memory = .ram ∧
      ({ withBytes [] with params := shared } : State).params.memory = .bus := by decide

/-- CanonicalMemoryDeterminedByReads: two memories of the canonical form that read the same everywhere, and the top address. -/
theorem witness_CanonicalMemoryDeterminedByReads :
    (Memory.wf [(0x000000, 0x01), (0xFFFFFF, 0xFF)] = true ∧
      ∀ a : Nat, Memory.read [(0x000000, 0x01), (0xFFFFFF, 0xFF)] a =
        Memory.read [(0x000000, 0x01), (0xFFFFFF, 0xFF)] a) ∧
      Memory.wf [(0x000000, 0x01)] = true ∧ 0xFFFFFF < 2 ^ 24 :=
  ⟨⟨by decide, fun _ => rfl⟩, by decide, by decide⟩

/-- DirectAddressFunction: the case of the shortcut, the case of no shortcut, and an offset and index that just stay in a page. -/
theorem witness_DirectAddressFunction :
    (let s := { withBytes [] with d := 0x1200, sp := 0x01FF, p := emulation };
      s.params.dpExempt ≠ some 0xB5 ∧ s.p.e = true ∧ (loByte s.d).toNat = 0 ∧
        s.directAddr 0xB5 0xFF 0x0001 = 0x001200 ∧ s.directAddr 0xB5 0xFF 0x0000 = 0x0012FF) ∧
      ({ withBytes [] with d := 0x1201, sp := 0x01FF, p := emulation }).directAddr 0xB5 0xFF 0x0001 = 0x001301 ∧
      (0xFF : Byte).toNat + (0x0000 : Word).toNat ≤ 0xFF := by decide

/-- LoadsWriteRegisterAndNZ, StoresWriteOnlyTheirOperand: an instruction of each mnemonic. -/
theorem witness_loads_and_stores :
    [(Instr.ldaImm 0xFFFF).mnemonic, (Instr.ldxDpY 0xFF).mnemonic, (Instr.ldyAbsX 0xFFFF).mnemonic,
      (Instr.staLongX 0xFFFFFF).mnemonic, (Instr.stxDpY 0xFF).mnemonic, (Instr.styDpX 0xFF).mnemonic,
      (Instr.stzAbsX 0xFFFF).mnemonic] = [.lda, .ldx, .ldy, .sta, .stx, .sty, .stz] := by decide

/-- AdcResultAndFlags, SbcResultAndFlags, ComparesSetCarryZeroNegative, LogicIntoAccumulator, BitTestsOperand (both kinds of
form), TestAndSetResetBits: an instruction of each mnemonic. -/
theorem witness_arithmetic_and_logic :
    [(Instr.adcImm 0xFFFF).mnemonic, (Instr.sbcSrIndY 0xFF).mnemonic, (Instr.cmpLong 0xFFFFFF).mnemonic,
      (Instr.cpxImm 0x00FF).mnemonic, (Instr.cpyAbs 0xFFFF).mnemonic, (Instr.andDpInd 0xFF).mnemonic,
      (Instr.oraImm 0x0000).mnemonic, (Instr.eorSr 0xFF).mnemonic] = [.adc, .sbc, .cmp, .cpx, .cpy, .and, .ora, .eor] ∧
    [(Instr.bitImm 0x8000).mnemonic, (Instr.bitDpX 0xFF).mnemonic, (Instr.tsbDp 0xFF).mnemonic,
      (Instr.trbAbs 0xFFFF).mnemonic] = [.bit, .bit, .tsb, .trb] ∧
    (Instr.bitImm 0x8000).tag = .immM ∧ (Instr.bitDpX 0xFF).tag ≠ .immM := by decide

/-- DecimalAddersAreDecimalArithmetic: the greatest and the least numbers at both widths (the first part has no hypothesis). -/
theorem witness_DecimalAddersAreDecimalArithmetic :
    isBcd (bitsOf false / 4) (0x9999 : Word).toNat = true ∧ isBcd (bitsOf false / 4) (0x0000 : Word).toNat = true ∧
      isBcd (bitsOf true / 4) (0x0099 : Word).toNat = true ∧ isBcd (bitsOf true / 4) (0x0000 : Word).toNat = true := by decide

/-- ReadModifyWriteAccumulator and ReadModifyWriteMemory: the six mnemonics in both kinds of form. -/
theorem witness_read_modify_write :
    (∀ i ∈ ([.incAcc, .decAcc, .aslAcc, .lsrAcc, .rolAcc, .rorAcc] : List Instr),
      i.mnemonic ∈ rmwMnemonics ∧ i.tag = .acc) ∧
    (∀ i ∈ ([.incDp 0xFF, .decAbs 0xFFFF, .aslDpX 0xFF, .lsrAbsX 0xFFFF, .rolDp 0x00, .rorAbs 0x0000] : List Instr),
      i.mnemonic ∈ rmwMnemonics ∧ i.tag ≠ .acc) := by decide

/-- CallThenReturnResumesAfterCall, PushThenPullRoundTrips, TrapThenRtiResumes: emulation mode with the stack at the bottom of
page 1, and native mode with 8-bit and with 16-bit indexes. -/
theorem witness_round_trips :
    (let s := { withBytes [] with sp := 0x0100, x := 0x00FF, y := 0x00FF, p := emulation };
      s.emulationOk = true ∧ s.indexOk = true ∧ s.params.memory = .ram) ∧
    (let s := { withBytes [] with sp := 0x0000, x := 0x00FF, p := narrow };
      s.emulationOk = true ∧ s.indexOk = true ∧ s.params.memory = .ram) ∧
    (let s := { withBytes [] with sp := 0xFFFF, x := 0xFFFF, y := 0x0100 };
      s.emulationOk = true ∧ s.indexOk = true ∧ s.params.memory = .ram) := by decide

/-- XceExchangesCarryAndEmulation: the carry set and clear, in both modes, and clear with both values of x. -/
theorem witness_XceExchangesCarryAndEmulation :
    ({ withBytes [] with p := { Flags.reset with c := true } } : State).p.c = true ∧
      ({ withBytes [] with sp := 0x01FF, p := { emulation with c := true } } : State).p.c = true ∧
      (withBytes []).p.c = false ∧ ({ withBytes [] with p := narrow } : State).p.c = false ∧
      ({ withBytes [] with sp := 0x01FF, p := emulation } : State).p.c = false := by decide

/-- WdmFaultsOrSkips: both policies, and a Running machine that fetches WDM. -/
theorem witness_WdmFaultsOrSkips :
    (let s := withBytes [(0x8000, 0x42), (0x8001, 0xFF)];
      s.params.wdm = .fault ∧ s.run = .running ∧ s.fetch = .wdm 0xFF ∧ s.params.timing = .budget (.table []) 0x10000) ∧
    ({ withBytes [] with params := { calm with wdm := .nop2 } } : State).params.wdm = .nop2 := by decide

/-- MvnMovesWholeBlockAcrossBanks: no execution, and the last of the longest block, between two banks. -/
theorem witness_MvnMovesWholeBlockAcrossBanks :
    let s := { withBytes [] with a := 0xFFFF, x := 0xFFFF, y := 0x0000 }
    s.params.memory = .ram ∧ 0 ≤ s.a.toNat + 1 ∧ 0x10000 = s.a.toNat + 1 ∧ (0x7E : Byte) ≠ 0x7F := by
  decide

/-- BlockMoveOverlapWithinOneBank, clause by clause at the ends of its ranges: MVN one byte down at the greatest count, MVP
one byte up, replication at distances 1 and A with 8-bit offsets, and the same place. -/
theorem witness_BlockMoveOverlapWithinOneBank :
    let ahead := fun (s : State) (delta : Int) => ((atWidth s.p.x s.y : Int) - atWidth s.p.x s.x) * delta
    let at8 := fun (a x y : Word) => { withBytes [] with a := a, x := x, y := y, p := narrow }
    let at16 := fun (a x y : Word) => { withBytes [] with a := a, x := x, y := y }
    ((withBytes []).params.memory = .ram ∧ (withBytes []).params.blockRoles = .architecture) ∧
    (ahead (at16 0xFFFE 0x0001 0x0000) 1 ≤ 0 ∧ -ahead (at16 0xFFFE 0x0001 0x0000) 1 + 0xFFFE < 2 ^ bitsOf false) ∧
    (ahead (at8 0x00FE 0x0000 0x0001) (-1) ≤ 0 ∧ -ahead (at8 0x00FE 0x0000 0x0001) (-1) + 0xFE < 2 ^ bitsOf true) ∧
    (ahead (at8 0x00FE 0x0000 0x0001) 1 = (1 : Nat) ∧ 1 ≤ 0xFE ∧ 1 + 0xFE < 2 ^ bitsOf true) ∧
    (ahead (at8 0x007F 0x007F 0x0000) (-1) = (0x7F : Nat) ∧ 0x7F ≤ 0x7F ∧ 0x7F + 0x7F < 2 ^ bitsOf true) ∧
    ahead (at16 0xFFFF 0x1234 0x1234) 1 = 0 := by decide

/-- PollTakesExitThenNmiThenIrq and StepByRunState: each case of the poll. -/
theorem witness_PollTakesExitThenNmiThenIrq :
    ({ withBytes [] with exitRequest := true, nmiPending := true } : State).exitRequest = true ∧
    (let s := { withBytes [] with nmiPending := true, irqLine := true };
      s.exitRequest = false ∧ s.nmiPending = true) ∧
    (let s := { withBytes [] with irqLine := true };
      s.exitRequest = false ∧ s.nmiPending = false ∧ s.irqLine = true ∧ s.p.i = false) ∧
    (let s := { withBytes [] with irqLine := true, run := .halted, p := { Flags.reset with i := true } };
      s.exitRequest = false ∧ s.nmiPending = false ∧ s.irqLine = true ∧ s.p.i = true) ∧
    (let s := withBytes [];
      s.exitRequest = false ∧ s.nmiPending = false ∧ s.irqLine = false) := by decide

/-- StepRunsDecodedInstruction: a Running machine whose bytes at the last offset of the bank decode, the operand wrapping. -/
theorem witness_StepRunsDecodedInstruction :
    let s := { withBytes [(0x000000, 0x05), (0x00FFFF, 0xA9)] with pc := 0xFFFF, p := narrow }
    s.run = .running ∧ s.params.timing = .budget (.table []) 0x10000 ∧
      decode s.p.m s.p.x ((List.range 2).map fun k => byteOf s [] (codePlace s) k) = .ok (.ldaImm 0x0005, []) :=
  ⟨rfl, rfl, rfl⟩

/-- StepRunsDecodedInstruction: a machine whose timing is not fixed, and WDM, of which only the opcode is fetched. -/
theorem witness_StepRunsDecodedInstruction_draw :
    let s := { withBytes [(0x8000, 0x42), (0x8001, 0xFF)] with params := Params.default }
    s.run = .running ∧ s.params.timing = .draw ∧ s.params.wdm = .fault ∧
      decode s.p.m s.p.x ((List.range 2).map fun k => byteOf s [] (codePlace s) k) = .ok (.wdm 0xFF, []) :=
  ⟨rfl, rfl, rfl, rfl⟩

/-- StepByRunState: a machine in each run state. -/
theorem witness_StepByRunState :
    ({ withBytes [] with run := .halted } : State).run = .halted ∧
      ({ withBytes [] with run := .terminated } : State).run = .terminated ∧
      ({ withBytes [] with run := .faulted .unmappedOpcode 0x00 0x8000 0x42 } : State).run =
        .faulted .unmappedOpcode 0x00 0x8000 0x42 := by decide

/-- RunStateTransitions: a step to Faulted, a step to Terminated, and steps to Halted from Running and from Halted. -/
theorem witness_RunStateTransitions :
    after (withBytes [(0x8000, 0x42)]) (·.run) = some (.faulted .unmappedOpcode 0x00 0x8000 0x42) ∧
      after { withBytes [] with run := .halted, exitRequest := true } (·.run) = some .terminated ∧
      after (withBytes [(0x8000, 0xDB)]) (·.run) = some .halted ∧
      after { withBytes [] with run := .halted } (·.run) = some .halted := by decide

/-- InvariantHoldsAtReset: an image with its lowest and its highest cell listed. -/
theorem witness_InvariantHoldsAtReset : Memory.wf [(0x000000, 0x01), (0xFFFFFF, 0xFF)] = true := by decide

/-- StepKeepsInvariant: a step from a state with the invariant, in native mode and in emulation mode. -/
theorem witness_StepKeepsInvariant :
    (let s := withBytes [(0x8000, 0xFB)];
      s.inv = true ∧ after s (·.pc) = some 0x8001) ∧
    (let s := { withBytes [(0x8000, 0x48)] with sp := 0x0100, a := 0x00AA, p := emulation };
      s.inv = true ∧ after s (·.sp) = some 0x01FF) := by decide

/-- FlagsWrittenOnlyByTheirInstructions, BankDirectAndStackRegisterWriters, OnlyStoringInstructionsWriteMemory,
HiddenAccumulatorByteKept: instructions outside the lists, which answer a next state. -/
theorem witness_writers :
    ran .nop (withBytes []) (·.pc) = some 0x8001 ∧
      Instr.nop.mnemonic ∉ ([.rep, .sep, .plp, .rti, .lda, .ldx, .ldy, .adc, .sbc, .and, .ora, .eor, .inc, .dec, .inx, .iny,
        .dex, .dey, .asl, .lsr, .rol, .ror, .cmp, .cpx, .cpy, .tax, .tay, .txa, .tya, .txy, .tyx, .tsx, .tsc, .tcd, .tdc,
        .xba, .pla, .plx, .ply, .plb, .pld, .bit, .tsb, .trb, .clc, .sec, .xce, .clv, .cld, .sed, .cli, .sei, .brk, .cop,
        .mvn, .mvp, .jml, .jsl, .rtl, .pha, .phx, .phy, .phb, .phd, .phk, .php, .pea, .pei, .per, .jsr, .rts, .tcs, .txs,
        .sta, .stx, .sty, .stz] : List Mnemonic) ∧
      (Instr.rep 0xFF).mnemonic ∈ ([.rep, .sep] : List Mnemonic) ∧ (withBytes []).p.e = false ∧
      Instr.incAcc.mnemonic ∈ rmwMnemonics ∧ Instr.incAcc.tag = .acc ∧
      ran .incAcc (withBytes []) (·.a) = some 0x0001 ∧ narrow.m = true ∧
      Instr.xce.mnemonic ∈ ([.rep, .sep, .plp, .rti, .xce] : List Mnemonic) ∧
      ran .xce { withBytes [] with p := { narrow with c := true } } (·.p.e) = some true := by decide

/-- EveryInstructionCompletesAndLeavesInputs: an instruction after which the state is not safe, from a safe one. -/
theorem witness_EveryInstructionCompletesAndLeavesInputs :
    (withBytes []).safe = true ∧ ran (.wdm 0x00) (withBytes []) State.safe = some false ∧
      Instr.nop.mnemonic ∉ ([.wai, .stp, .wdm] : List Mnemonic) := by decide

/-- OperandFollowsTagAndBytes: two instructions of one tag with the same operand bytes, an 8-bit immediate and a long operand. -/
theorem witness_OperandFollowsTagAndBytes :
    ((Instr.ldaImm 0x00FF).wellFormed true true = true ∧ (Instr.cmpImm 0x00FF).wellFormed true true = true ∧
      (Instr.ldaImm 0x00FF).tag = (Instr.cmpImm 0x00FF).tag ∧
      (encode true true (.ldaImm 0x00FF)).tail = (encode true true (.cmpImm 0x00FF)).tail) ∧
    ((Instr.ldaLongX 0xFFFFFF).tag = (Instr.staLongX 0xFFFFFF).tag ∧
      (encode true true (.ldaLongX 0xFFFFFF)).tail = (encode true true (.staLongX 0xFFFFFF)).tail) ∧
    (Instr.staDp 0xFF).memOperand = some (.dp 0xFF) := by decide

/-- HostMovesAndWhatStepsOwe: both kinds of memory (witness_memory_kinds), and a step with no NMI latched. -/
theorem witness_HostMovesAndWhatStepsOwe :
    (withBytes [(0x8000, 0xEA)]).nmiPending = false ∧ after (withBytes [(0x8000, 0xEA)]) (·.pc) = some 0x8001 := by decide

/-- CostsAndPollPeriodArePositive: a table with an entry, and a given poll period, each at 1. -/
theorem witness_CostsAndPollPeriodArePositive :
    (let s := { withBytes [] with params := { calm with timing := .budget (.table [1]) 1 } };
      s.params.timing = .budget (.table [1]) 1 ∧ ([1] : List Nat)[(0x00 : Byte).toNat]? = some 1) ∧ 1 ≤ 1 := by decide

end Sys2Proof.Tests
end

section
/-! PROOFS. Operands in memory as the accesses they make (R14, R85, R96, R141). -/

namespace Sys2Proof.Machine

open Sys2Proof.Claims

@[simp] theorem operandPlace_zero (ea : Ea) : operandPlace ea 0 = ea.lo := rfl

@[simp] theorem operandPlace_one (ea : Ea) : operandPlace ea 1 = ea.hi := rfl

@[simp] theorem readsOf_zero (place : Nat → Addr) : readsOf place 0 = [] := rfl

@[simp] theorem readsOf_one (place : Nat → Addr) : readsOf place 1 = [.read (place 0)] := rfl

/-- The reads of an operand's bytes at a width (R85). -/
theorem map_read_bytes (narrow : Bool) (ea : Ea) :
    (ea.bytes (Width.ofFlag narrow)).map BusEvent.read = readsOf (operandPlace ea) (bytesOf narrow) := by
  cases narrow <;> rfl

/-- A value as the words of the claims cut it to a width (R9). -/
theorem trunc_ofFlag_toNat (narrow : Bool) (v : Word) : ((Width.ofFlag narrow).trunc v).toNat = atWidth narrow v := by
  cases narrow <;> exact trunc_toNat _ v

/-- A read at a width after some accesses is the value of its bytes, low byte first (R14, R85). -/
theorem readAt_performed (s : State) (before : List BusEvent) (narrow : Bool) (ea : Ea) :
    (performed s before).readAt (Width.ofFlag narrow) ea = valueOf s narrow before (operandPlace ea) := by
  cases narrow
  · simp [Width.ofFlag, State.readAt, valueOf, byteOf, byteAfter, noteRead_eq_performed, performed_append]
  · simp [Width.ofFlag, State.readAt, valueOf, byteOf, byteAfter]

/-- Resolving a mode is the reads of its pointer (R96). -/
theorem resolved_eq_performed (o : MemOperand) (op : Byte) (s : State) :
    o.resolved op s = performed s (pointerEvents op s o) :=
  noteReads_eq_performed s _

/-- The value of an operand is the claims' value of it (R14, R143). -/
theorem operand_read_eq (narrow : Bool) (op : Byte) (s : State) (o : Operand) :
    o.read (Width.ofFlag narrow) op s = operandValue narrow op s o := by
  cases o with
  | imm v =>
    apply BitVec.eq_of_toNat_eq
    have hlt := ((Width.ofFlag narrow).trunc v).isLt
    rw [trunc_ofFlag_toNat] at hlt
    simpa [Operand.read, operandValue, trunc_ofFlag_toNat] using (Nat.mod_eq_of_lt hlt).symm
  | mem o =>
    rw [Operand.read, MemOperand.read, resolved_eq_performed, readAt_performed]; rfl

/-- The accesses of reading an operand: its pointer's reads, then its own (R96). -/
theorem operand_afterRead_eq (narrow : Bool) (op : Byte) (s : State) (o : Operand) :
    o.afterRead (Width.ofFlag narrow) op s = performed s (operandEvents narrow op s o) := by
  cases o with
  | imm v => exact (performed_nil s).symm
  | mem o =>
    rw [Operand.afterRead, MemOperand.afterRead, noteReads_eq_performed, map_read_bytes, resolved_eq_performed,
      ← performed_append]
    rfl

/-- The accesses of writing an operand: its stores, low byte first (R85, D37). -/
theorem writeAt_ofFlag (s : State) (narrow : Bool) (ea : Ea) (v : Word) :
    s.writeAt (Width.ofFlag narrow) ea v = performed s (operandWrites narrow ea v) := by
  cases narrow <;> exact writeAt_eq_performed s _ ea v

/-- In plain RAM a write at two different places leaves the value there and every other byte as it was (R85). -/
theorem writeAt_storesAt (s : State) (narrow : Bool) (ea : Ea) (v : Word) (hram : s.params.memory = .ram)
    (hne : ea.hi ≠ ea.lo) : StoresAt s (s.writeAt (Width.ofFlag narrow) ea v) narrow ea v := by
  refine ⟨?_, ?_, ?_⟩
  · simp [load_writeAt, hram, hne.symm]
  · rintro rfl
    simp [load_writeAt, hram, Width.ofFlag]
  · intro q hlo hhi
    cases narrow
    · simp [load_writeAt, hram, hlo, hhi rfl]
    · simp [load_writeAt, hram, hlo, Width.ofFlag]

/-- In plain RAM what stands at an operand's addresses is what a read of it gives. -/
theorem readAt_toNat_of_storesAt {s t : State} {narrow : Bool} {ea : Ea} {v : Word} (hram : t.params.memory = .ram)
    (h : StoresAt s t narrow ea v) : (t.readAt (Width.ofFlag narrow) ea).toNat = atWidth narrow v := by
  obtain ⟨hlo, hhi, -⟩ := h
  rw [← trunc_ofFlag_toNat]
  cases narrow
  · simp [Width.ofFlag, State.readAt, Width.trunc, noteRead_of_ram t _ hram, hlo, hhi rfl]
  · simp [Width.ofFlag, State.readAt, Width.trunc, hlo]

/-- Settles O6: reads and writes of an operand as accesses, and in plain RAM the second byte is not at the first's address. -/
theorem operandWriteReadsBack : Obligations.OperandWriteReadsBack := by
  intro s narrow o op v q
  have hstores := fun hram : s.params.memory = .ram =>
    writeAt_storesAt s narrow (o.ea op s) v hram (ea_hi_ne_lo s o op)
  refine ⟨rfl, writeAt_ofFlag s narrow _ v, fun hram => ⟨?_, hstores hram⟩, trunc_ofFlag_toNat narrow v, rfl,
    operand_read_eq narrow op s (.mem o), operand_afterRead_eq narrow op s (.mem o)⟩
  exact readAt_toNat_of_storesAt (by simpa using hram) (hstores hram)

end Sys2Proof.Machine
end

section
/-! PROOFS. Costs and the poll period are positive (R6, R435). -/

namespace Sys2Proof.Machine

/-- A positive entry of a cost table is the cost (R435). -/
theorem cost_of_table (s : State) (op : Byte) {costs : List Nat} {poll c : Nat}
    (h : s.params.timing = .budget (.table costs) poll) (hc : costs[op.toNat]? = some c) (hpos : 1 ≤ c) :
    s.cost op = c := by
  simp [State.cost, h, List.getD_eq_getElem?_getD, hc, hpos]

/-- A given positive poll period is the poll period (R435). -/
theorem pollPeriod_of_budget (par : Params) {cost : CostRule} {poll : Nat} (h : par.timing = .budget cost poll)
    (hpos : 1 ≤ poll) : pollPeriod par = poll := by
  simp [pollPeriod, h, hpos]

/-- Settles O59, with `cost_pos` and `pollPeriod_pos`. -/
theorem costsAndPollPeriodArePositive : Obligations.CostsAndPollPeriodArePositive :=
  ⟨fun s op => ⟨cost_pos s op, fun _ _ _ h hc hpos => cost_of_table s op h hc hpos⟩,
    fun par => ⟨pollPeriod_pos par, fun _ _ h hpos => pollPeriod_of_budget par h hpos⟩⟩

end Sys2Proof.Machine
end

section
/-! PROOFS. Decoding a run of bytes that holds exactly one instruction (R111-R113, R123). -/

namespace Sys2Proof

/-- What the entry builds has the length the entry asks for, whatever the bytes and the widths are (R113, R123). -/
def OpEntry.BuildsItsLength (e : OpEntry) : Prop :=
  ∀ (m x : Bool) (b1 b2 b3 : Byte), (e.build m x b1 b2 b3).length m x = 1 + e.operandBytes m x

/-- Every entry of the opcode map builds instructions of its own length. -/
theorem opMap_buildsItsLength : ∀ row ∈ opMap, ∀ e ∈ row, e.BuildsItsLength := by
  simp only [opMap, opRow0, opRow1, opRow2, opRow3, opRow4, opRow5, opRow6, opRow7, opRow8, opRow9, opRowA, opRowB,
    opRowC, opRowD, opRowE, opRowF, List.forall_mem_cons, List.not_mem_nil, false_implies, implies_true, and_true]
  repeat' constructor
  all_goals exact fun _ _ _ _ _ => rfl

/-- An entry looked up with a default is the default or an entry of the list. -/
theorem forall_getD {α : Type} {P : α → Prop} {l : List α} {d : α} (h : ∀ a ∈ l, P a) (hd : P d) (n : Nat) :
    P (l.getD n d) := by
  rw [List.getD_eq_getElem?_getD]
  cases hn : l[n]? with
  | none => exact hd
  | some a => exact h a (List.mem_of_getElem? hn)

theorem opEntry_buildsItsLength (op : Byte) : (opEntry op).BuildsItsLength :=
  forall_getD (forall_getD (P := fun row : List OpEntry => ∀ e ∈ row, e.BuildsItsLength) opMap_buildsItsLength
    (by simp) _) (fun _ _ _ _ _ => rfl) _

/-- An entry looks at no byte past its operand (R113, R114). -/
theorem build_congr (m x : Bool) (e : OpEntry) {b1 b2 b3 c1 c2 c3 : Byte} (h1 : 1 ≤ e.operandBytes m x → b1 = c1)
    (h2 : 2 ≤ e.operandBytes m x → b2 = c2) (h3 : 3 ≤ e.operandBytes m x → b3 = c3) :
    e.build m x b1 b2 b3 = e.build m x c1 c2 c3 := by
  cases e with
  | imp i => rfl
  | byte mk => simp_all [OpEntry.build, OpEntry.operandBytes]
  | word mk => simp_all [OpEntry.build, OpEntry.operandBytes]
  | long mk => simp_all [OpEntry.build, OpEntry.operandBytes]
  | immM mk => cases m <;> simp_all [OpEntry.build, OpEntry.operandBytes, immOf]
  | immX mk => cases x <;> simp_all [OpEntry.build, OpEntry.operandBytes, immOf]
  | banks mk => simp_all [OpEntry.build, OpEntry.operandBytes]

/-- A byte list that is one instruction and no more: its length, and the instruction. -/
theorem decode_eq_ok_nil {m x : Bool} {bytes : List Byte} {i : Instr} (h : decode m x bytes = .ok (i, [])) :
    bytes.length = 1 + (opEntry (bytes.getD 0 0)).operandBytes m x ∧
      i = decodeBytes m x (bytes.getD 0 0) (bytes.getD 1 0) (bytes.getD 2 0) (bytes.getD 3 0) := by
  cases bytes with
  | nil => simp [decode] at h
  | cons op rest =>
    simp only [decode] at h
    split at h
    · cases h
    · next hlen =>
      simp only [Except.ok.injEq, Prod.mk.injEq, List.drop_eq_nil_iff] at h
      obtain ⟨hi, hrest⟩ := h
      refine ⟨?_, hi.symm⟩
      simp only [List.length_cons, List.getD_cons_zero]
      omega

/-- If the first n bytes of a run are one instruction and no more, that is the instruction that the first four bytes of the run
give, and n is its length. -/
theorem decodeBytes_of_decode_range {m x : Bool} {f : Nat → Byte} {n : Nat} {i : Instr}
    (h : decode m x ((List.range n).map f) = .ok (i, [])) :
    decodeBytes m x (f 0) (f 1) (f 2) (f 3) = i ∧ i.length m x = n := by
  have hget : ∀ k, k < n → ((List.range n).map f).getD k 0 = f k := fun k hk => by
    simp [List.getD_eq_getElem?_getD, hk]
  obtain ⟨hlen, rfl⟩ := decode_eq_ok_nil h
  simp only [List.length_map, List.length_range] at hlen
  rw [hget 0 (by omega)] at hlen ⊢
  refine ⟨?_, (opEntry_buildsItsLength _ _ _ _ _ _).trans hlen.symm⟩
  exact build_congr m x _ (fun h1 => (hget 1 (by omega)).symm) (fun h2 => (hget 2 (by omega)).symm)
    (fun h3 => (hget 3 (by omega)).symm)

end Sys2Proof
end

section
/-! PROOFS. No instruction changes what the loop around it reads: the parameters, `cyc`, the count of draws and the host's inputs
(R431, R435-R437, R450). -/

namespace Sys2Proof.Machine

/-- What the loop around an instruction has given it and still owns after it. -/
structure LoopInputs where
  params : Params
  cyc : Int
  draws : Nat
  exitRequest : Bool
  nmiPending : Bool
  irqLine : Bool

/-- The loop's inputs in a state. -/
def State.loopInputs (s : State) : LoopInputs :=
  { params := s.params, cyc := s.cyc, draws := s.draws, exitRequest := s.exitRequest, nmiPending := s.nmiPending,
    irqLine := s.irqLine }

variable (s : State) (op : Byte)

@[simp] theorem loopInputs_mk (a x y sp d : Word) (dbr pbr : Byte) (pc : Word) (p : Flags) (run : RunState) (cyc : Int)
    (er np il : Bool) (mem : Memory) (bus : List BusEvent) (draws : Nat) (params : Params) :
    (State.mk a x y sp d dbr pbr pc p run cyc er np il mem bus draws params).loopInputs =
      ⟨params, cyc, draws, er, np, il⟩ := rfl

@[simp] theorem loopInputs_params : s.loopInputs.params = s.params := rfl
@[simp] theorem loopInputs_draws : s.loopInputs.draws = s.draws := rfl

/-- The fields read one by one are the inputs: closes a goal about a record update. -/
theorem mk_loopInputs :
    LoopInputs.mk s.params s.cyc s.draws s.exitRequest s.nmiPending s.irqLine = s.loopInputs := rfl

/-! ### The shared operations -/

@[simp] theorem noteRead_loopInputs (q : Addr) : (s.noteRead q).loopInputs = s.loopInputs := rfl
@[simp] theorem noteReads_loopInputs (l : List Addr) : (s.noteReads l).loopInputs = s.loopInputs := by
  simp [State.loopInputs]
@[simp] theorem store_loopInputs (q : Addr) (v : Byte) : (s.store q v).loopInputs = s.loopInputs := rfl
@[simp] theorem writeAt_loopInputs (w : Width) (ea : Ea) (v : Word) :
    (s.writeAt w ea v).loopInputs = s.loopInputs := by simp [State.loopInputs]
@[simp] theorem setA_loopInputs (w : Width) (v : Word) : (s.setA w v).loopInputs = s.loopInputs := rfl
@[simp] theorem setX_loopInputs (w : Width) (v : Word) : (s.setX w v).loopInputs = s.loopInputs := rfl
@[simp] theorem setY_loopInputs (w : Width) (v : Word) : (s.setY w v).loopInputs = s.loopInputs := rfl
@[simp] theorem setSp_loopInputs (v : Word) : (s.setSp v).loopInputs = s.loopInputs := rfl
@[simp] theorem setNZ_loopInputs (w : Width) (v : Word) : (s.setNZ w v).loopInputs = s.loopInputs := rfl
@[simp] theorem setC_loopInputs (v : Bool) : (s.setC v).loopInputs = s.loopInputs := rfl
@[simp] theorem setZ_loopInputs (v : Bool) : (s.setZ v).loopInputs = s.loopInputs := rfl
@[simp] theorem setV_loopInputs (v : Bool) : (s.setV v).loopInputs = s.loopInputs := rfl
@[simp] theorem compare_loopInputs (w : Width) (a b : Word) : (s.compare w a b).loopInputs = s.loopInputs := rfl
@[simp] theorem advance_loopInputs (n : Nat) : (s.advance n).loopInputs = s.loopInputs := rfl
@[simp] theorem jump_loopInputs (t : Word) : (s.jump t).loopInputs = s.loopInputs := rfl
@[simp] theorem jumpLong_loopInputs (t : Addr) : (s.jumpLong t).loopInputs = s.loopInputs := rfl
@[simp] theorem push8_loopInputs (v : Byte) : (s.push8 v).loopInputs = s.loopInputs := rfl
@[simp] theorem push16_loopInputs (v : Word) : (s.push16 v).loopInputs = s.loopInputs := rfl
@[simp] theorem pushAt_loopInputs (w : Width) (v : Word) : (s.pushAt w v).loopInputs = s.loopInputs := by
  simp [State.loopInputs]
@[simp] theorem pull8_loopInputs : s.pull8.2.loopInputs = s.loopInputs := rfl
@[simp] theorem pull16_loopInputs : s.pull16.2.loopInputs = s.loopInputs := rfl
@[simp] theorem pullAt_loopInputs (w : Width) : (s.pullAt w).2.loopInputs = s.loopInputs := by
  simp [State.loopInputs]
@[simp] theorem fixWidths_loopInputs : s.fixWidths.loopInputs = s.loopInputs := by simp [State.loopInputs]
@[simp] theorem unpack_loopInputs (v : Byte) : (s.unpack v).loopInputs = s.loopInputs := by simp [State.loopInputs]

@[simp] theorem enter_loopInputs (kind : TrapKind) : (s.enter kind).loopInputs = s.loopInputs := by
  rw [enter_eq]; rfl

@[simp] theorem returnFromTrap_loopInputs : s.returnFromTrap.loopInputs = s.loopInputs := by
  simp [State.loopInputs, returnFromTrap_frame]

@[simp] theorem resolved_loopInputs (o : MemOperand) : (o.resolved op s).loopInputs = s.loopInputs :=
  noteReads_loopInputs s _

@[simp] theorem memAfterRead_loopInputs (w : Width) (o : MemOperand) :
    (o.afterRead w op s).loopInputs = s.loopInputs := by
  rw [MemOperand.afterRead, noteReads_loopInputs, resolved_loopInputs]

@[simp] theorem afterRead_loopInputs (w : Width) (o : Operand) : (o.afterRead w op s).loopInputs = s.loopInputs := by
  cases o with
  | imm v => rfl
  | mem o => exact memAfterRead_loopInputs s op w o

@[simp] theorem rmwWrite_loopInputs (w : Width) (v : Word) (o : RmwOperand) :
    (o.write w op s v).loopInputs = s.loopInputs := by
  cases o with
  | acc => rfl
  | mem o => simp [RmwOperand.write]

@[simp] theorem branch_loopInputs (cond : Bool) (d : Byte) : (s.branch cond d).loopInputs = s.loopInputs := by
  cases cond <;> rfl

@[simp] theorem blockMoveStep_loopInputs (delta : Word) (dst src : Byte) :
    (blockMoveStep delta dst src s).loopInputs = s.loopInputs := by
  unfold blockMoveStep
  split <;> rfl

@[simp] theorem raiseFault_loopInputs (kind : FaultKind) (i0 : Word) (code : Byte) :
    (s.raiseFault kind i0 code).loopInputs = s.loopInputs := rfl

@[simp] theorem wdmOp_loopInputs (sig : Byte) : (wdmOp sig s).loopInputs = s.loopInputs := by
  unfold wdmOp
  split <;> rfl

@[simp] theorem bitOp_loopInputs (o : Operand) : (bitOp op o s).loopInputs = s.loopInputs := by
  cases o with
  | imm v => simp [bitOp]
  | mem o => exact afterRead_loopInputs s op s.wA (.mem o)

/-- Every instruction has a next state and leaves the loop's inputs alone: its meaning is a chain of the shared operations above
and of updates of registers, flags and the run state. -/
theorem exec_next_loopInputs (i : Instr) : ∃ t, exec i s = .next t ∧ t.loopInputs = s.loopInputs := by
  cases i
  all_goals refine ⟨_, rfl, ?_⟩
  all_goals simp [mk_loopInputs, adcOp, andOp, aslOp, bccOp, bcsOp, beqOp, bmiOp, bneOp, bplOp, braOp, brkOp, brlOp,
    bvcOp, bvsOp, clcOp, cldOp, cliOp, clvOp, cmpOp, copOp, cpxOp, cpyOp, decOp, dexOp, deyOp, eorOp, incOp, inxOp,
    inyOp, jmlAbsIndL, jmlLong, jmpAbs, jmpAbsInd, jmpAbsXInd, jslOp, jsrAbs, jsrAbsXInd, ldaOp, ldxOp, ldyOp,
    lsrOp, mvnOp, mvpOp, nopOp, oraOp, peaOp, peiOp, perOp, phaOp, phbOp, phdOp, phkOp, phpOp, phxOp, phyOp, plaOp,
    plbOp, pldOp, plpOp, plxOp, plyOp, repOp, rolOp, rorOp, rtiOp, rtlOp, rtsOp, sbcOp, secOp, sedOp, seiOp, sepOp,
    staOp, stpOp, stxOp, styOp, stzOp, taxOp, tayOp, tcdOp, tcsOp, tdcOp, trbOp, tsbOp, tscOp, tsxOp, txaOp, txsOp,
    txyOp, tyaOp, tyxOp, waiOp, xbaOp, xceOp]

variable {s} in
/-- The state an instruction goes to has the loop's inputs of the state before. -/
theorem loopInputs_of_exec {i : Instr} {t : State} (h : exec i s = .next t) : t.loopInputs = s.loopInputs := by
  obtain ⟨u, hu, hi⟩ := exec_next_loopInputs s i
  obtain rfl : u = t := Host.Outcome.next.inj (hu.symm.trans h)
  exact hi

end Sys2Proof.Machine
end

section
/-! PROOFS. A Running step as R431 has it: fetch, charge, execute, and at the end perhaps a poll. -/

namespace Sys2Proof.Machine

open Sys2Proof.Claims

variable (s : State)

/-! ### Fetching -/

/-- The claims' place of byte k of an instruction is the machine's (R112). -/
theorem codePlace_eq_codeAddr (k : Nat) : codePlace s k = s.codeAddr k := by
  apply BitVec.eq_of_toNat_eq
  have hb := s.pbr.isLt
  simp only [codePlace, inBank, State.codeAddr, addrOf_toNat, BitVec.toNat_ofNat, BitVec.toNat_add]
  omega

/-- Fetching n bytes is their reads (R12, R112). -/
theorem fetched_eq_performed (n : Nat) : s.fetched n = performed s (readsOf (codePlace s) n) := by
  simp only [State.fetched, noteReads_eq_performed, readsOf, List.map_map, codePlace_eq_codeAddr]; rfl

/-- The claims' byte k of an instruction is the machine's (R12, R112). -/
theorem byteOf_codePlace (k : Nat) : byteOf s [] (codePlace s) k = s.codeByte k := by
  rw [State.codeByte, fetched_eq_performed, ← codePlace_eq_codeAddr]; rfl

variable {s} in
/-- Bytes at PC that are one instruction and no more are what is fetched, and the instruction's length is how many they are
(R112, R432). -/
theorem fetch_of_decode {i : Instr} {n : Nat}
    (h : decode s.p.m s.p.x ((List.range n).map fun k => byteOf s [] (codePlace s) k) = .ok (i, [])) :
    s.fetch = i ∧ i.length s.p.m s.p.x = n := by
  simp only [byteOf_codePlace] at h
  exact decodeBytes_of_decode_range h

/-- A Running step makes the reads of the fetch on the charged state (R431). -/
theorem charge_fetched (op : Byte) (n : Nat) :
    (s.charge op).fetched n =
      performed { s with cyc := s.cycAfter op, draws := s.drawsAfter } (readsOf (codePlace s) n) :=
  fetched_eq_performed _ n

/-! ### The charge -/

theorem cycAfter_of_budget {cost : CostRule} {poll : Nat} (h : s.params.timing = .budget cost poll) (op : Byte) :
    s.cycAfter op = s.cyc - (s.cost op : Int) := by simp [State.cycAfter, h]

theorem cycAfter_of_draw (h : s.params.timing = .draw) (op : Byte) :
    s.cycAfter op = Config.cycDraw (s.draws + 1) := by simp [State.cycAfter, h]

theorem drawsAfter_of_budget {cost : CostRule} {poll : Nat} (h : s.params.timing = .budget cost poll) :
    s.drawsAfter = s.draws := by simp [State.drawsAfter, h]

theorem drawsAfter_of_draw (h : s.params.timing = .draw) : s.drawsAfter = s.draws + 1 := by
  simp [State.drawsAfter, h]

/-! ### The end of a step -/

/-- The end of a step after no fault (R431), and after a fault. -/
theorem endOfStep_eq_ite :
    s.endOfStep = if s.safe = true then (if s.pollDue then s.replenish.poll else s.replenish) else s := by
  rw [endOfStep_eq]
  cases h : s.run <;> simp [State.safe, h]

/-- With a given budget a step ends with a poll when the budget is used up, and it is replenished (R431, R435). -/
theorem endOfStep_of_budget {cost : CostRule} {poll : Nat} (h : s.params.timing = .budget cost poll) :
    s.endOfStep =
      if s.safe = true ∧ s.cyc ≤ 0 then ({ s with cyc := s.cyc + pollPeriod s.params } : State).poll else s := by
  rw [endOfStep_eq_ite, replenish_of_budget s h]
  by_cases hcyc : s.cyc ≤ 0 <;> simp [State.pollDue, h, hcyc]

/-- Where timing is not fixed a step ends with a poll when its draw, the n-th, says so (R437). -/
theorem endOfStep_of_draw (h : s.params.timing = .draw) {n : Nat} (hn : s.draws = n) :
    s.endOfStep = if s.safe = true ∧ Config.pollDraw n = true then s.poll else s := by
  rw [endOfStep_eq_ite, replenish_of_draw s h]
  by_cases hpoll : Config.pollDraw n = true <;> simp [State.pollDue, h, hn, hpoll]

/-! ### A Running step -/

/-- The reads of the fetch of an instruction of n bytes: of WDM under `P_WDM = fault` the opcode only (R112, R392). -/
theorem fetchLength_of_length {i : Instr} {n : Nat} (h : i.length s.p.m s.p.x = n) :
    s.fetchLength i = if i.opcode = 0x42 ∧ s.params.wdm = .fault then 1 else n := by
  rw [State.fetchLength, h]

/-- An outcome with its next state mapped. -/
def mapNext (f : State → State) : Result → Result
  | .next t => .next (f t)
  | .fault r => .fault r
  | .refused r => .refused r

/-- Only the next state of an outcome matters to what maps it. -/
theorem mapNext_congr {f g : State → State} {r : Result} (h : ∀ t, r = .next t → f t = g t) :
    mapNext f r = mapNext g r := by
  cases r with
  | next t => exact congrArg Host.Outcome.next (h t rfl)
  | fault r => rfl
  | refused r => rfl

/-- A Running step executes the instruction fetched on the charged state with the reads of the fetch, and what ends a step of this
state's timing ends it: exec leaves the parameters and the count of draws alone (R431). -/
theorem stepRunning_eq {f : State → State}
    (hf : ∀ t : State, t.params = s.params → t.draws = s.drawsAfter → t.endOfStep = f t) :
    stepRunning s =
      mapNext f (exec s.fetch (performed { s with cyc := s.cycAfter s.fetch.opcode, draws := s.drawsAfter }
        (readsOf (codePlace s) (s.fetchLength s.fetch)))) := by
  have hstep : stepRunning s =
      mapNext State.endOfStep (exec s.fetch ((s.charge s.fetch.opcode).fetched (s.fetchLength s.fetch))) := rfl
  rw [hstep, charge_fetched]
  refine mapNext_congr fun t ht => ?_
  have hinputs := loopInputs_of_exec ht
  exact hf t (by simpa using congrArg LoopInputs.params hinputs) (by simpa using congrArg LoopInputs.draws hinputs)

/-- Settles O46: the fetch decodes what stands at PC, and the end of the step finds the timing that the step began with. -/
theorem stepRunsDecodedInstruction : Obligations.StepRunsDecodedInstruction := by
  intro s i n hdecode
  obtain ⟨hfetch, hlen⟩ := fetch_of_decode hdecode
  have hreads := fetchLength_of_length s hlen
  refine ⟨hfetch, fun cost poll hrun htiming => ?_, fun hrun htiming => ?_⟩
  · have hstep := stepRunning_eq s fun t hp _ => endOfStep_of_budget t (hp ▸ htiming)
    rw [hfetch, hreads, cycAfter_of_budget s htiming, drawsAfter_of_budget s htiming] at hstep
    exact (step_of_running s hrun).trans hstep
  · have hdraws := drawsAfter_of_draw s htiming
    have hstep := stepRunning_eq s fun t hp hd => endOfStep_of_draw t (hp ▸ htiming) (hd.trans hdraws)
    rw [hfetch, hreads, cycAfter_of_draw s htiming, hdraws] at hstep
    exact (step_of_running s hrun).trans hstep

end Sys2Proof.Machine
end

section
/-! PROOFS. What an instruction may write: its meaning is a chain of the updates below, and each update is made by some mnemonics
only (R31-R54). -/

namespace Sys2Proof

open Sys2Proof.Claims

/-- The parts of the state that only some mnemonics write: the flags but e (`widths` are m and x), the registers but X, Y and PC
(`hiddenA` is the high byte of A when m is set), memory, and the run state. -/
inductive StatePart where
  | c
  | z
  | n
  | v
  | d
  | i
  | b
  | widths
  | hiddenA
  | stack
  | direct
  | dataBank
  | programBank
  | memory
  | run

/-- The mnemonics that write all flags but e and b, from a status byte or a mask (R46, R388, R389). -/
def statusMnemonics : List Mnemonic := [.rep, .sep, .plp, .rti]

/-- The mnemonics that write n and z from a result (R41). -/
def resultMnemonics : List Mnemonic := statusMnemonics ++ [.lda, .ldx, .ldy, .adc, .sbc, .and, .ora, .eor, .inc, .dec, .inx,
  .iny, .dex, .dey, .asl, .lsr, .rol, .ror, .cmp, .cpx, .cpy, .tax, .tay, .txa, .tya, .txy, .tyx, .tsx, .tsc, .tcd, .tdc,
  .xba, .pla, .plx, .ply, .plb, .pld, .bit]

/-- The mnemonics that may write a part of the state (R32-R44, R48, R51, R52). Memory forms of `rmwMnemonics` write memory too
(`Stores`), and REP and SEP pin SP in emulation mode (R47). -/
def StatePart.writers : StatePart → List Mnemonic
  | .c => statusMnemonics ++ [.adc, .sbc, .cmp, .cpx, .cpy, .asl, .lsr, .rol, .ror, .clc, .sec, .xce]
  | .z => resultMnemonics ++ [.tsb, .trb]
  | .n => resultMnemonics
  | .v => statusMnemonics ++ [.adc, .sbc, .bit, .clv]
  | .d => statusMnemonics ++ [.cld, .sed, .brk, .cop]
  | .i => statusMnemonics ++ [.cli, .sei, .brk, .cop]
  | .b => [.brk, .cop]
  | .widths => statusMnemonics ++ [.xce]
  | .hiddenA => [.xba, .tsc, .tdc, .mvn, .mvp]
  | .stack => [.pha, .phx, .phy, .phb, .phd, .phk, .php, .pea, .pei, .per, .pla, .plx, .ply, .plb, .pld, .plp, .jsr, .jsl,
      .rts, .rtl, .rti, .brk, .cop, .tcs, .txs, .xce]
  | .direct => [.tcd, .pld]
  | .dataBank => [.plb, .mvn, .mvp]
  | .programBank => [.jml, .jsl, .rtl, .rti, .brk, .cop]
  | .memory => [.sta, .stx, .sty, .stz, .tsb, .trb, .mvn, .mvp, .jsr, .jsl, .brk, .cop, .pha, .phx, .phy, .phb, .phd, .phk,
      .php, .pea, .pei, .per]
  | .run => [.wai, .stp, .wdm]

/-- The mnemonic may write the part of the state. -/
abbrev Mnemonic.Writes (mn : Mnemonic) (part : StatePart) : Prop := mn ∈ part.writers

/-- An instruction with this mnemonic and tag may write memory: a storing mnemonic, or a memory form of a read-modify-write. -/
def Stores (mn : Mnemonic) (tag : Tag) : Prop := mn.Writes .memory ∨ (mn ∈ rmwMnemonics ∧ tag ≠ .acc)

/-- What the software traps write besides b. -/
theorem writes_of_writes_b : ∀ mn ∈ StatePart.writers .b,
    mn.Writes .memory ∧ mn.Writes .stack ∧ mn.Writes .d ∧ mn.Writes .i ∧ mn.Writes .programBank := by
  decide

/-- The width writers that are no stack users are REP and SEP. -/
theorem mem_rep_sep_of_writes_widths : ∀ mn ∈ StatePart.writers .widths, ¬ mn.Writes .stack → mn ∈ [Mnemonic.rep, .sep] := by
  decide

/-- No writer of the high byte of A is a width writer. -/
theorem not_writes_widths_of_writes_hiddenA : ∀ mn ∈ StatePart.writers .hiddenA, ¬ mn.Writes .widths := by
  decide

end Sys2Proof

namespace Sys2Proof.Machine

open Sys2Proof.Claims

/-- The state is reached from `s` by updates that an instruction with this mnemonic and tag may make. The values written are left
open. A, X and Y are written at the widths of `s`, by no writer of the widths; those settle the registers by R47. -/
inductive Reaches (mn : Mnemonic) (tag : Tag) (s : State) : State → Prop where
  | start : Reaches mn tag s s
  | read {u : State} (q : Addr) (h : Reaches mn tag s u) : Reaches mn tag s (u.noteRead q)
  | store {u : State} (q : Addr) (f : Byte) (h : Reaches mn tag s u) (hw : Stores mn tag) : Reaches mn tag s (u.store q f)
  | pc {u : State} (f : Word) (h : Reaches mn tag s u) : Reaches mn tag s { u with pc := f }
  | a {u : State} (f : Word) (h : Reaches mn tag s u) (hw : ¬ mn.Writes .widths := by decide) :
      Reaches mn tag s (u.setA s.wA f)
  | x {u : State} (f : Word) (h : Reaches mn tag s u) (hw : ¬ mn.Writes .widths := by decide) :
      Reaches mn tag s (u.setX s.wX f)
  | y {u : State} (f : Word) (h : Reaches mn tag s u) (hw : ¬ mn.Writes .widths := by decide) :
      Reaches mn tag s (u.setY s.wX f)
  | wideA {u : State} (f : Word) (h : Reaches mn tag s u) (hw : mn.Writes .hiddenA := by decide) :
      Reaches mn tag s { u with a := f }
  | sp {u : State} (f : Word) (h : Reaches mn tag s u) (hw : mn.Writes .stack := by decide) :
      Reaches mn tag s (u.setSp f)
  | direct {u : State} (f : Word) (h : Reaches mn tag s u) (hw : mn.Writes .direct := by decide) :
      Reaches mn tag s { u with d := f }
  | dataBank {u : State} (f : Byte) (h : Reaches mn tag s u) (hw : mn.Writes .dataBank := by decide) :
      Reaches mn tag s { u with dbr := f }
  | programBank {u : State} (f : Byte) (h : Reaches mn tag s u) (hw : mn.Writes .programBank := by decide) :
      Reaches mn tag s { u with pbr := f }
  | c {u : State} (f : Bool) (h : Reaches mn tag s u) (hw : mn.Writes .c := by decide) : Reaches mn tag s (u.setC f)
  | z {u : State} (f : Bool) (h : Reaches mn tag s u) (hw : mn.Writes .z := by decide) : Reaches mn tag s (u.setZ f)
  | n {u : State} (f : Bool) (h : Reaches mn tag s u) (hw : mn.Writes .n := by decide) :
      Reaches mn tag s { u with p := { u.p with n := f } }
  | v {u : State} (f : Bool) (h : Reaches mn tag s u) (hw : mn.Writes .v := by decide) : Reaches mn tag s (u.setV f)
  | d {u : State} (f : Bool) (h : Reaches mn tag s u) (hw : mn.Writes .d := by decide) :
      Reaches mn tag s { u with p := { u.p with d := f } }
  | i {u : State} (f : Bool) (h : Reaches mn tag s u) (hw : mn.Writes .i := by decide) :
      Reaches mn tag s { u with p := { u.p with i := f } }
  | b {u : State} (f : Bool) (h : Reaches mn tag s u) (hw : mn.Writes .b := by decide) :
      Reaches mn tag s { u with p := { u.p with b := f } }
  | status {u : State} (f : Flags) (h : Reaches mn tag s u) (he : f.e = u.p.e := by rfl) (hb : f.b = u.p.b := by rfl)
      (hw : mn ∈ statusMnemonics := by decide) : Reaches mn tag s ({ u with p := f } : State).fixWidths
  | exchange {u : State} (h : Reaches mn tag s u) (hw : mn = .xce := by decide) :
      Reaches mn tag s ({ u with p := { u.p with c := u.p.e, e := u.p.c } } : State).fixWidths
  | halt {u : State} (h : Reaches mn tag s u) (hw : mn ∈ [Mnemonic.wai, .stp] := by decide) :
      Reaches mn tag s { u with run := .halted }
  | fault {u : State} (kind : FaultKind) (i0 : Word) (code : Byte) (h : Reaches mn tag s u)
      (hpar : s.params.wdm = .fault) (hw : mn = .wdm := by decide) : Reaches mn tag s (u.raiseFault kind i0 code)

namespace Reaches

variable {mn : Mnemonic} {tag : Tag} {s u : State}

/-! ### The shared operations as updates -/

theorem nz (w : Width) (f : Word) (h : Reaches mn tag s u) (hn : mn.Writes .n := by decide) :
    Reaches mn tag s (u.setNZ w f) :=
  .n (w.sign f) (.z (decide (w.trunc f = 0)) h (List.mem_append_left _ hn)) hn

theorem compare (w : Width) (f g : Word) (h : Reaches mn tag s u) (hc : mn.Writes .c := by decide)
    (hn : mn.Writes .n := by decide) : Reaches mn tag s (u.compare w f g) :=
  .n (w.sign (f - g)) (.z (decide (f = g)) (.c (decide (g.toNat ≤ f.toNat)) h hc) (List.mem_append_left _ hn)) hn

theorem reads (l : List Addr) (h : Reaches mn tag s u) : Reaches mn tag s (u.noteReads l) := by
  induction l generalizing u with
  | nil => exact h
  | cons q rest ih => exact ih (.read q h)

theorem memAfterRead (w : Width) (op : Byte) (o : MemOperand) (h : Reaches mn tag s u) :
    Reaches mn tag s (o.afterRead w op u) :=
  .reads _ (.reads _ h)

theorem afterRead (w : Width) (op : Byte) (o : Operand) (h : Reaches mn tag s u) :
    Reaches mn tag s (o.afterRead w op u) := by
  cases o with
  | imm v => exact h
  | mem o => exact .memAfterRead w op o h

theorem writeAt (w : Width) (ea : Ea) (f : Word) (h : Reaches mn tag s u) (hw : Stores mn tag) :
    Reaches mn tag s (u.writeAt w ea f) := by
  cases w with
  | w8 => exact .store _ _ h hw
  | w16 => exact .store _ _ (.store _ _ h hw) hw

theorem rmwMemory (w : Width) (op : Byte) (o : MemOperand) (f : Word) (h : Reaches mn tag s u)
    (hw : mn ∈ rmwMnemonics := by decide) (htag : tag ≠ .acc := by decide) :
    Reaches mn tag s (RmwOperand.write w op u f (.mem o)) :=
  .writeAt _ _ _ (.memAfterRead w op o h) (.inr ⟨hw, htag⟩)

theorem push8 (f : Byte) (h : Reaches mn tag s u) (hm : mn.Writes .memory := by decide)
    (hsp : mn.Writes .stack := by decide) : Reaches mn tag s (u.push8 f) :=
  .sp _ (.store _ _ h (.inl hm)) hsp

theorem push16 (f : Word) (h : Reaches mn tag s u) (hm : mn.Writes .memory := by decide)
    (hsp : mn.Writes .stack := by decide) : Reaches mn tag s (u.push16 f) :=
  .push8 _ (.push8 _ h hm hsp) hm hsp

theorem pushAt (w : Width) (f : Word) (h : Reaches mn tag s u) (hm : mn.Writes .memory := by decide)
    (hsp : mn.Writes .stack := by decide) : Reaches mn tag s (u.pushAt w f) := by
  cases w with
  | w8 => exact .push8 _ h hm hsp
  | w16 => exact .push16 _ h hm hsp

theorem pull8 (h : Reaches mn tag s u) (hsp : mn.Writes .stack := by decide) : Reaches mn tag s u.pull8.2 :=
  .read _ (.sp _ h hsp)

theorem pull16 (h : Reaches mn tag s u) (hsp : mn.Writes .stack := by decide) : Reaches mn tag s u.pull16.2 :=
  .pull8 (.pull8 h hsp) hsp

theorem pullAt (w : Width) (h : Reaches mn tag s u) (hsp : mn.Writes .stack := by decide) :
    Reaches mn tag s (u.pullAt w).2 := by
  cases w with
  | w8 => exact .pull8 h hsp
  | w16 => exact .pull16 h hsp

theorem unpack (f : Byte) (h : Reaches mn tag s u) (hw : mn ∈ statusMnemonics := by decide) :
    Reaches mn tag s (u.unpack f) :=
  .status _ h rfl rfl hw

theorem branch (cond : Bool) (f : Byte) (h : Reaches mn tag s u) : Reaches mn tag s (u.branch cond f) := by
  cases cond with
  | false => exact .pc _ h
  | true => exact .pc _ h

theorem jumpLong (f : Addr) (h : Reaches mn tag s u) (hw : mn.Writes .programBank := by decide) :
    Reaches mn tag s (u.jumpLong f) :=
  .pc (offsetOf f) (.programBank (bankOf f) h hw)

/-- The frame of a trap, in either mode (R440). -/
theorem pushFrame (kind : TrapKind) (h : Reaches mn tag s u) (hb : mn.Writes .b) :
    Reaches mn tag s (u.pushFrame kind) := by
  obtain ⟨hm, hsp, -⟩ := writes_of_writes_b mn hb
  unfold State.pushFrame
  cases u.p.e with
  | false => exact .push8 _ (.push16 _ (.push8 _ h hm hsp) hm hsp) hm hsp
  | true => exact .push8 _ (.b _ (.push16 _ h hm hsp) hb) hm hsp

theorem enter (kind : TrapKind) (h : Reaches mn tag s u) (hb : mn.Writes .b := by decide) :
    Reaches mn tag s (u.enter kind) := by
  obtain ⟨-, -, hd, hi, hbank⟩ := writes_of_writes_b mn hb
  have hread := (pushFrame kind h hb).reads
    (pointerBytes16 (addrOf 0 (vectorAddr (u.pushFrame kind).params.vectors kind u.p.e)))
  exact .pc _ (.programBank 0 (.d false (.i true hread hi) hd) hbank)

theorem returnFromTrap (h : Reaches .rti tag s u) : Reaches .rti tag s u.returnFromTrap := by
  have hframe : Reaches .rti tag s (u.pull8.2.unpack u.pull8.1).pull16.2 := .pull16 (.unpack _ (.pull8 h))
  unfold State.returnFromTrap
  dsimp only
  split
  · exact .pc _ hframe
  · exact .programBank _ (.pull8 (.pc _ hframe))

/-- One iteration of a block move, whether PC stays or not (R421). -/
theorem blockMoveStep (delta : Word) (dst src : Byte) (hm : mn.Writes .memory := by decide)
    (ha : mn.Writes .hiddenA := by decide) (hb : mn.Writes .dataBank := by decide)
    (hw : ¬ mn.Writes .widths := by decide) : Reaches mn tag s (blockMoveStep delta dst src s) := by
  have hread : Reaches mn tag s (s.noteRead (s.blockAddrs dst src).1) := .read _ .start
  have hstored := hread.store (s.blockAddrs dst src).2 (s.load (s.blockAddrs dst src).1) (.inl hm)
  have hmoved := Reaches.y (s.idxY + delta) (.x (s.idxX + delta) (.wideA (s.a - 1) (.dataBank dst hstored hb) ha) hw) hw
  unfold Machine.blockMoveStep
  dsimp only
  split
  · exact hmoved
  · exact .pc _ hmoved

/-- WDM under either policy (R392). -/
theorem wdmOp (sig : Byte) : Reaches .wdm tag s (wdmOp sig s) := by
  unfold Machine.wdmOp
  split
  next hpar => exact .pc _ (.fault _ _ _ .start hpar)
  next => exact .pc _ .start

/-- The memory forms of BIT: z, then the operand's two top bits (R254). -/
theorem bitMemory (op : Byte) (o : MemOperand) : Reaches .bit tag s (bitOp op (.mem o) s) := by
  have hread : Reaches .bit tag s (o.afterRead s.wA op s) := .memAfterRead _ _ _ .start
  exact .pc _ (.v ((o.read s.wA op s).getLsbD (s.wA.bits - 2)) (.n (s.wA.sign (o.read s.wA op s))
    (.z (decide (s.getA s.wA &&& o.read s.wA op s = 0)) hread)))

end Reaches

/-- Every instruction has a next state, and the instruction's updates reach it: one chain for each form of meaning. -/
theorem exec_reaches (i : Instr) (s : State) : ∃ t, exec i s = .next t ∧ Reaches i.mnemonic i.tag s t := by
  cases i with dsimp only [Instr.mnemonic, Instr.tag, Instr.row]
  | ldaDpXInd | ldaSr | ldaDp | ldaDpIndL | ldaImm | ldaAbs | ldaLong | ldaDpIndY | ldaDpInd | ldaSrIndY | ldaDpX
  | ldaDpIndLY | ldaAbsY | ldaAbsX | ldaLongX | andDpXInd | andSr | andDp | andDpIndL | andImm | andAbs | andLong
  | andDpIndY | andDpInd | andSrIndY | andDpX | andDpIndLY | andAbsY | andAbsX | andLongX | oraDpXInd | oraSr
  | oraDp | oraDpIndL | oraImm | oraAbs | oraLong | oraDpIndY | oraDpInd | oraSrIndY | oraDpX | oraDpIndLY
  | oraAbsY | oraAbsX | oraLongX | eorDpXInd | eorSr | eorDp | eorDpIndL | eorImm | eorAbs | eorLong | eorDpIndY
  | eorDpInd | eorSrIndY | eorDpX | eorDpIndLY | eorAbsY | eorAbsX | eorLongX =>
    exact ⟨_, rfl, .pc _ (.nz _ _ (.a _ (.afterRead _ _ _ .start)))⟩
  | adcDpXInd | adcSr | adcDp | adcDpIndL | adcImm | adcAbs | adcLong | adcDpIndY | adcDpInd | adcSrIndY | adcDpX
  | adcDpIndLY | adcAbsY | adcAbsX | adcLongX | sbcDpXInd | sbcSr | sbcDp | sbcDpIndL | sbcImm | sbcAbs | sbcLong
  | sbcDpIndY | sbcDpInd | sbcSrIndY | sbcDpX | sbcDpIndLY | sbcAbsY | sbcAbsX | sbcLongX =>
    exact ⟨_, rfl, .pc _ (.nz _ _ (.a _ (.c _ (.v _ (.afterRead _ _ _ .start)))))⟩
  | ldxImm | ldxDp | ldxAbs | ldxDpY | ldxAbsY => exact ⟨_, rfl, .pc _ (.nz _ _ (.x _ (.afterRead _ _ _ .start)))⟩
  | ldyImm | ldyDp | ldyAbs | ldyDpX | ldyAbsX => exact ⟨_, rfl, .pc _ (.nz _ _ (.y _ (.afterRead _ _ _ .start)))⟩
  | cmpDpXInd | cmpSr | cmpDp | cmpDpIndL | cmpImm | cmpAbs | cmpLong | cmpDpIndY | cmpDpInd | cmpSrIndY | cmpDpX
  | cmpDpIndLY | cmpAbsY | cmpAbsX | cmpLongX | cpxImm | cpxDp | cpxAbs | cpyImm | cpyDp | cpyAbs =>
    exact ⟨_, rfl, .pc _ (.compare _ _ _ (.afterRead _ _ _ .start))⟩
  | bitImm => exact ⟨_, rfl, .pc _ (.z _ (.afterRead _ _ _ .start))⟩
  | bitDp | bitAbs | bitDpX | bitAbsX => exact ⟨_, rfl, .bitMemory _ _⟩
  | staDpXInd | staSr | staDp | staDpIndL | staAbs | staLong | staDpIndY | staDpInd | staSrIndY | staDpX
  | staDpIndLY | staAbsY | staAbsX | staLongX | stxDp | stxAbs | stxDpY | styDp | styAbs | styDpX | stzDp | stzDpX
  | stzAbs | stzAbsX => exact ⟨_, rfl, .pc _ (.writeAt _ _ _ (.reads _ .start) (.inl (by decide)))⟩
  | tsbDp | tsbAbs | trbDp | trbAbs =>
    exact ⟨_, rfl, .pc _ (.writeAt _ _ _ (.z _ (.memAfterRead _ _ _ .start)) (.inl (by decide)))⟩
  | incDp | incAbs | incDpX | incAbsX | decDp | decAbs | decDpX | decAbsX =>
    exact ⟨_, rfl, .pc _ (.nz _ _ (.rmwMemory _ _ _ _ .start))⟩
  | aslDp | aslAbs | aslDpX | aslAbsX | lsrDp | lsrAbs | lsrDpX | lsrAbsX | rolDp | rolAbs | rolDpX | rolAbsX
  | rorDp | rorAbs | rorDpX | rorAbsX => exact ⟨_, rfl, .pc _ (.nz _ _ (.c _ (.rmwMemory _ _ _ _ .start)))⟩
  | incAcc | decAcc | txa | tya => exact ⟨_, rfl, .pc _ (.nz _ _ (.a _ .start))⟩
  | aslAcc | lsrAcc | rolAcc | rorAcc => exact ⟨_, rfl, .pc _ (.nz _ _ (.c _ (.a _ .start)))⟩
  | inx | dex | tax | tyx | tsx => exact ⟨_, rfl, .pc _ (.nz _ _ (.x _ .start))⟩
  | iny | dey | tay | txy => exact ⟨_, rfl, .pc _ (.nz _ _ (.y _ .start))⟩
  | tsc | tdc | xba => exact ⟨_, rfl, .pc _ (.nz _ _ (.wideA _ .start))⟩
  | tcd => exact ⟨_, rfl, .pc _ (.nz _ _ (.direct _ .start))⟩
  | txs | tcs => exact ⟨_, rfl, .pc _ (.sp _ .start)⟩
  | bpl | bmi | bvc | bvs | bcc | bcs | bne | beq | bra => exact ⟨_, rfl, .branch _ _ .start⟩
  | brl | jmpAbs | nop => exact ⟨_, rfl, .pc _ .start⟩
  | jmpAbsInd | jmpAbsXInd => exact ⟨_, rfl, .pc _ (.reads _ .start)⟩
  | jmlLong => exact ⟨_, rfl, .jumpLong _ .start⟩
  | jmlAbsIndL => exact ⟨_, rfl, .jumpLong _ (.reads _ .start)⟩
  | jsrAbs | phd | pea | per => exact ⟨_, rfl, .pc _ (.push16 _ .start)⟩
  | jsrAbsXInd | pei => exact ⟨_, rfl, .pc _ (.push16 _ (.reads _ .start))⟩
  | jsl => exact ⟨_, rfl, .jumpLong _ (.push16 _ (.push8 _ .start))⟩
  | rts => exact ⟨_, rfl, .pc _ (.pull16 .start)⟩
  | rtl => exact ⟨_, rfl, .pc (s.pull16.1 + 1) (.programBank s.pull16.2.pull8.1 (.pull8 (.pull16 .start)))⟩
  | pha | phx | phy => exact ⟨_, rfl, .pc _ (.pushAt _ _ .start)⟩
  | phb | phk | php => exact ⟨_, rfl, .pc _ (.push8 _ .start)⟩
  | pla => exact ⟨_, rfl, .pc _ (.nz _ _ (.a _ (.pullAt _ .start)))⟩
  | plx => exact ⟨_, rfl, .pc _ (.nz _ _ (.x _ (.pullAt _ .start)))⟩
  | ply => exact ⟨_, rfl, .pc _ (.nz _ _ (.y _ (.pullAt _ .start)))⟩
  | plb => exact ⟨_, rfl, .pc _ (.nz _ _ (.dataBank _ (.pull8 .start)))⟩
  | pld => exact ⟨_, rfl, .pc _ (.nz _ _ (.direct _ (.pull16 .start)))⟩
  | plp => exact ⟨_, rfl, .pc _ (.unpack _ (.pull8 .start))⟩
  | rep | sep => exact ⟨_, rfl, .pc _ (.status _ .start)⟩
  | xce => exact ⟨_, rfl, .pc _ (.exchange .start)⟩
  | clc | sec => exact ⟨_, rfl, .pc _ (.c _ .start)⟩
  | cli | sei => exact ⟨_, rfl, .pc _ (.i _ .start)⟩
  | cld | sed => exact ⟨_, rfl, .pc _ (.d _ .start)⟩
  | clv => exact ⟨_, rfl, .pc _ (.v _ .start)⟩
  | wai | stp => exact ⟨_, rfl, .pc _ (.halt .start)⟩
  | wdm => exact ⟨_, rfl, .wdmOp _⟩
  | brk | cop => exact ⟨_, rfl, .enter _ (.pc _ .start)⟩
  | rti => exact ⟨_, rfl, .returnFromTrap .start⟩
  | mvn | mvp => exact ⟨_, rfl, .blockMoveStep _ _ _⟩

/-- The state an instruction answers is reached by its updates. -/
theorem reaches_of_exec {i : Instr} {s t : State} (h : exec i s = .next t) : Reaches i.mnemonic i.tag s t := by
  obtain ⟨u, hu, hr⟩ := exec_reaches i s
  obtain rfl : u = t := Host.Outcome.next.inj (hu.symm.trans h)
  exact hr

end Sys2Proof.Machine
end

section
/-! PROOFS. What an instruction leaves as it was: the frame of its mnemonic and the accesses it makes (R31-R54, R88, R96). -/

namespace Sys2Proof.Machine

open Sys2Proof.Claims

/-- What an instruction of a mnemonic leaves as it was: each part of the state that only other mnemonics write. Width writers keep
all of A, every other mnemonic but the writers of `hiddenA` its high byte when m is set (R51). -/
structure Frame (mn : Mnemonic) (s t : State) : Prop where
  c : ¬ mn.Writes .c → t.p.c = s.p.c
  z : ¬ mn.Writes .z → t.p.z = s.p.z
  n : ¬ mn.Writes .n → t.p.n = s.p.n
  v : ¬ mn.Writes .v → t.p.v = s.p.v
  d : ¬ mn.Writes .d → t.p.d = s.p.d
  i : ¬ mn.Writes .i → t.p.i = s.p.i
  b : ¬ mn.Writes .b → t.p.b = s.p.b
  e : mn ≠ .xce → t.p.e = s.p.e
  m : ¬ mn.Writes .widths → t.p.m = s.p.m
  x : ¬ mn.Writes .widths → t.p.x = s.p.x
  a : mn.Writes .widths → t.a = s.a
  hiddenA : ¬ mn.Writes .hiddenA → s.p.m = true → hiByte t.a = hiByte s.a
  sp : ¬ mn.Writes .stack → (mn ∈ [Mnemonic.rep, .sep] → s.p.e = false) → t.sp = s.sp
  direct : ¬ mn.Writes .direct → t.d = s.d
  dataBank : ¬ mn.Writes .dataBank → t.dbr = s.dbr
  programBank : ¬ mn.Writes .programBank → t.pbr = s.pbr
  run : ¬ mn.Writes .run → t.run = s.run
  safe : s.safe = true → t.safe = false → mn = .wdm ∧ s.params.wdm = .fault
  params : t.params = s.params

theorem Frame.refl (mn : Mnemonic) (s : State) : Frame mn s s := by
  constructor <;> simp +contextual

/-- A write of A at its width keeps the high byte when m is set (R10, R51). -/
theorem hiByte_setA (s u : State) (f : Word) (hm : s.p.m = true) : hiByte (u.setA s.wA f).a = hiByte u.a := by
  simp [State.wA, Width.ofFlag, Width.merge, hm]

/-- R47 after a width writer: of what is framed it changes the widths, and SP in emulation mode. -/
theorem Frame.fixWidths {mn : Mnemonic} {s u : State} (h : Frame mn s u) (hw : mn.Writes .widths) :
    Frame mn s u.fixWidths := by
  rw [fixWidths_eq]
  refine { h with m := fun hn => absurd hw hn, x := fun hn => absurd hw hn, sp := fun hn hnative => ?_ }
  have hmn := mem_rep_sep_of_writes_widths mn hw hn
  have he : u.p.e = false := (h.e (by rintro rfl; exact absurd hmn (by decide))).trans (hnative hmn)
  show pinStack u.p.e u.sp = s.sp
  rw [he]
  exact h.sp hn hnative

namespace Reaches

variable {mn : Mnemonic} {tag : Tag} {s t : State}

/-- An instruction's updates keep what its mnemonic does not write. -/
theorem frame (h : Reaches mn tag s t) : Frame mn s t := by
  induction h with
  | start => exact .refl mn s
  | read _ _ ih | store _ _ _ _ ih | pc _ _ ih | x _ _ _ ih | y _ _ _ ih => exact { ih with }
  | a f _ hw ih =>
    exact { ih with
      a := fun hm => absurd hm hw
      hiddenA := fun hn hm => (hiByte_setA s _ f hm).trans (ih.hiddenA hn hm) }
  | wideA _ _ hw ih =>
    exact { ih with
      a := fun hm => absurd hm (not_writes_widths_of_writes_hiddenA mn hw)
      hiddenA := fun hn => absurd hw hn }
  | sp _ _ hw ih => exact { ih with sp := fun hn => absurd hw hn }
  | direct _ _ hw ih => exact { ih with direct := fun hn => absurd hw hn }
  | dataBank _ _ hw ih => exact { ih with dataBank := fun hn => absurd hw hn }
  | programBank _ _ hw ih => exact { ih with programBank := fun hn => absurd hw hn }
  | c _ _ hw ih => exact { ih with c := fun hn => absurd hw hn }
  | z _ _ hw ih => exact { ih with z := fun hn => absurd hw hn }
  | n _ _ hw ih => exact { ih with n := fun hn => absurd hw hn }
  | v _ _ hw ih => exact { ih with v := fun hn => absurd hw hn }
  | d _ _ hw ih => exact { ih with d := fun hn => absurd hw hn }
  | i _ _ hw ih => exact { ih with i := fun hn => absurd hw hn }
  | b _ _ hw ih => exact { ih with b := fun hn => absurd hw hn }
  | @status u f _ he hb hw ih =>
    have hflags : Frame mn s { u with p := f } :=
      { ih with
        c := fun hn => absurd (List.mem_append_left _ hw) hn
        z := fun hn => absurd (List.mem_append_left _ (List.mem_append_left _ hw)) hn
        n := fun hn => absurd (List.mem_append_left _ hw) hn
        v := fun hn => absurd (List.mem_append_left _ hw) hn
        d := fun hn => absurd (List.mem_append_left _ hw) hn
        i := fun hn => absurd (List.mem_append_left _ hw) hn
        b := fun hn => hb.trans (ih.b hn)
        e := fun hn => he.trans (ih.e hn)
        m := fun hn => absurd (List.mem_append_left _ hw) hn
        x := fun hn => absurd (List.mem_append_left _ hw) hn }
    exact hflags.fixWidths (List.mem_append_left _ hw)
  | @exchange u _ hw ih =>
    have hflags : Frame mn s { u with p := { u.p with c := u.p.e, e := u.p.c } } :=
      { ih with c := fun hn => absurd (by rw [hw]; decide) hn, e := fun hn => absurd hw hn }
    exact hflags.fixWidths (by rw [hw]; decide)
  | halt _ hw ih => exact { ih with run := fun hn => absurd (List.mem_append_left _ hw) hn, safe := nofun }
  | fault _ _ _ _ hpar hw ih =>
    exact { ih with run := fun hn => absurd (by rw [hw]; decide) hn, safe := fun _ _ => ⟨hw, hpar⟩ }

/-! ### Memory -/

/-- An instruction that does not store keeps the cells of memory (R52). -/
theorem mem_of_not_stores (h : Reaches mn tag s t) (hn : ¬ Stores mn tag) : t.mem = s.mem := by
  induction h with
  | start => rfl
  | store _ _ _ hw => exact absurd hw hn
  | status _ _ _ _ _ ih | exchange _ _ ih => exact (fixWidths_mem _).trans ih
  | read _ _ ih | pc _ _ ih | a _ _ _ ih | x _ _ _ ih | y _ _ _ ih | wideA _ _ _ ih | sp _ _ _ ih | direct _ _ _ ih
    | dataBank _ _ _ ih | programBank _ _ _ ih | c _ _ _ ih | z _ _ _ ih | n _ _ _ ih | v _ _ _ ih | d _ _ _ ih
    | i _ _ _ ih | b _ _ _ ih | halt _ _ ih | fault _ _ _ _ _ _ ih => exact ih

end Reaches

/-- Accesses of a kind and one more of it, the newest in the history. -/
theorem accesses_record {s u t : State} {kind : BusEvent → Prop} {event : BusEvent} (h : Accesses s u kind)
    (hpar : u.params = s.params) (hk : kind event) (hbus : t.bus = u.record event)
    (hmem : u.params.memory = .bus → t.mem = u.mem) : Accesses s t kind := by
  obtain ⟨hram, hcol⟩ := h
  rw [← hpar] at hram hcol
  unfold Accesses
  rw [← hpar]
  refine ⟨fun hm => ?_, fun hm => ?_⟩
  · rw [hbus, State.record, hm]
    exact hram hm
  · obtain ⟨hsame, l, hl, hu⟩ := hcol hm
    refine ⟨(hmem hm).trans hsame, event :: l, List.forall_mem_cons.mpr ⟨hk, hl⟩, ?_⟩
    rw [hbus, State.record, hm, hu]
    rfl

namespace Reaches

variable {mn : Mnemonic} {tag : Tag} {s t : State}

/-- What a collaborator has seen of an instruction: reads, and writes if the instruction stores (R88, R96). -/
theorem accesses {kind : BusEvent → Prop} (h : Reaches mn tag s t) (hread : ∀ q, kind (.read q))
    (hwrite : Stores mn tag → ∀ q f, kind (.write q f)) : Accesses s t kind := by
  induction h with
  | start => exact ⟨fun _ => rfl, fun _ => ⟨rfl, [], by simp, rfl⟩⟩
  | read q hu ih => exact accesses_record ih hu.frame.params (hread q) rfl fun _ => rfl
  | store q f hu hw ih =>
    refine accesses_record ih hu.frame.params (hwrite hw q f) rfl fun hm => ?_
    rw [store_mem, State.cellsAfter, hm]
  | status _ _ _ _ _ ih | exchange _ _ ih => simpa [Accesses] using ih
  | pc _ _ ih | a _ _ _ ih | x _ _ _ ih | y _ _ _ ih | wideA _ _ _ ih | sp _ _ _ ih | direct _ _ _ ih
    | dataBank _ _ _ ih | programBank _ _ _ ih | c _ _ _ ih | z _ _ _ ih | n _ _ _ ih | v _ _ _ ih | d _ _ _ ih
    | i _ _ _ ih | b _ _ _ ih | halt _ _ ih | fault _ _ _ _ _ _ ih => exact ih

end Reaches

/-! ### The obligations on what an instruction writes -/

/-- Settles O52, from the frame of the instruction's mnemonic. -/
theorem flagsWrittenOnlyByTheirInstructions : Obligations.FlagsWrittenOnlyByTheirInstructions := by
  intro i s t h
  have hf := (reaches_of_exec h).frame
  exact ⟨hf.c, hf.z, hf.n, hf.v, hf.d, hf.i, hf.b, hf.e, fun hn => ⟨hf.m hn, hf.x hn⟩⟩

/-- Settles O53, from the frame of the instruction's mnemonic. -/
theorem bankDirectAndStackRegisterWriters : Obligations.BankDirectAndStackRegisterWriters := by
  intro i s t h
  have hf := (reaches_of_exec h).frame
  exact ⟨hf.direct, hf.dataBank, hf.programBank, hf.sp⟩

/-- Settles O55, from the frame of the instruction's mnemonic. -/
theorem hiddenAccumulatorByteKept : Obligations.HiddenAccumulatorByteKept := by
  intro i s t hm h
  have hf := (reaches_of_exec h).frame
  exact ⟨fun hn => hf.hiddenA hn hm, hf.a⟩

/-- Settles O54: without a store there is none among the updates. -/
theorem onlyStoringInstructionsWriteMemory : Obligations.OnlyStoringInstructionsWriteMemory := by
  intro i s t h hstore hrmw
  have hn : ¬ Stores i.mnemonic i.tag := by
    rintro (hm | ⟨hm, htag⟩)
    · exact hstore hm
    · exact htag (hrmw hm)
  have hr := reaches_of_exec h
  exact ⟨hr.mem_of_not_stores hn, hr.accesses (fun q => ⟨q, rfl⟩) fun hs => absurd hs hn⟩

/-- Settles O56: the updates end in a next state, make accesses of the core only, and leave the loop's inputs alone. -/
theorem everyInstructionCompletesAndLeavesInputs : Obligations.EveryInstructionCompletesAndLeavesInputs := by
  intro i s
  obtain ⟨t, ht, hr⟩ := exec_reaches i s
  have hinputs := loopInputs_of_exec ht
  have hf := hr.frame
  exact ⟨t, ht, congrArg LoopInputs.cyc hinputs, congrArg LoopInputs.draws hinputs,
    congrArg LoopInputs.exitRequest hinputs, congrArg LoopInputs.nmiPending hinputs,
    congrArg LoopInputs.irqLine hinputs, hf.params, hr.accesses (fun q k => nofun) (fun _ q f k => nofun), hf.run, hf.safe⟩

end Sys2Proof.Machine
end

section
/-! PROOFS. The invariant of R49, R50 and canonical memory: every update an instruction makes keeps it, and so does the loop
around the instruction (R431, R436, R440). What a step owes the host's inputs (R450). -/

namespace Sys2Proof.Machine

open Sys2Proof.Claims

/-- The invariant in three parts: R49 sets x in emulation mode, and R50 then gives it the zero high bytes of X and Y. -/
theorem inv_iff (s : State) :
    s.inv = true ↔ (s.p.e = true → s.p.m = true ∧ s.p.x = true ∧ hiByte s.sp = 0x01) ∧
      (s.p.x = true → hiByte s.x = 0 ∧ hiByte s.y = 0) ∧ s.mem.wf = true := by
  cases he : s.p.e <;> cases hx : s.p.x <;>
    simp [State.inv, State.emulationOk, State.indexOk, he, hx, and_assoc]

/-- A write at the width of X and Y keeps the register's high byte when x is set (R10). -/
theorem hiByte_merge_wX (s : State) (old f : Word) (hx : s.p.x = true) : hiByte (s.wX.merge old f) = hiByte old := by
  simp [State.wX, Width.ofFlag, Width.merge, hx]

theorem inv_setX (s : State) (f : Word) (h : s.inv = true) : (s.setX s.wX f).inv = true := by
  obtain ⟨hemulation, hindex, hwf⟩ := (inv_iff s).mp h
  exact (inv_iff _).mpr ⟨hemulation, fun hx => (hindex hx).imp_left (hiByte_merge_wX s s.x f hx).trans, hwf⟩

theorem inv_setY (s : State) (f : Word) (h : s.inv = true) : (s.setY s.wX f).inv = true := by
  obtain ⟨hemulation, hindex, hwf⟩ := (inv_iff s).mp h
  exact (inv_iff _).mpr ⟨hemulation, fun hx => (hindex hx).imp_right (hiByte_merge_wX s s.y f hx).trans, hwf⟩

/-- Every write of SP is pinned in emulation mode (R34). -/
theorem inv_setSp (s : State) (f : Word) (h : s.inv = true) : (s.setSp f).inv = true := by
  obtain ⟨hemulation, hindex, hwf⟩ := (inv_iff s).mp h
  refine (inv_iff _).mpr ⟨fun he => ?_, hindex, hwf⟩
  obtain ⟨hm, hx, -⟩ := hemulation he
  exact ⟨hm, hx, by rw [setSp_sp, show s.p.e = true from he, hiByte_pinStack_emulation]⟩

theorem inv_store (s : State) (q : Addr) (f : Byte) (h : s.inv = true) : (s.store q f).inv = true := by
  obtain ⟨hemulation, hindex, hwf⟩ := (inv_iff s).mp h
  exact (inv_iff _).mpr ⟨hemulation, hindex, wf_store s q f hwf⟩

/-- R47 brings R49 and R50 about. -/
theorem inv_fixWidths (s : State) (h : s.mem.wf = true) : s.fixWidths.inv = true := by
  simp [State.inv, fixWidths_emulationOk, fixWidths_indexOk, h]

/-- An instruction's updates keep the invariant. -/
theorem Reaches.inv {mn : Mnemonic} {tag : Tag} {s t : State} (h : Reaches mn tag s t) (hs : s.inv = true) :
    t.inv = true := by
  induction h with
  | start => exact hs
  | store q f _ _ ih => exact inv_store _ q f ih
  | @x u f hu hw ih =>
    have hwidth : s.wX = u.wX := congrArg Width.ofFlag (hu.frame.x hw).symm
    rw [hwidth]
    exact inv_setX u f ih
  | @y u f hu hw ih =>
    have hwidth : s.wX = u.wX := congrArg Width.ofFlag (hu.frame.x hw).symm
    rw [hwidth]
    exact inv_setY u f ih
  | sp f _ _ ih => exact inv_setSp _ f ih
  | status _ _ _ _ _ ih | exchange _ _ ih =>
    obtain ⟨-, -, hwf⟩ := (inv_iff _).mp ih
    exact inv_fixWidths _ hwf
  | read _ _ ih | pc _ _ ih | a _ _ _ ih | wideA _ _ _ ih | direct _ _ _ ih | dataBank _ _ _ ih | programBank _ _ _ ih
    | c _ _ _ ih | z _ _ _ ih | n _ _ _ ih | v _ _ _ ih | d _ _ _ ih | i _ _ _ ih | b _ _ _ ih | halt _ _ ih
    | fault _ _ _ _ _ _ ih => exact ih

/-- Trap entry keeps the invariant: all its updates are among those of BRK (R440). -/
theorem inv_enter (s : State) (kind : TrapKind) (h : s.inv = true) : (s.enter kind).inv = true :=
  (Reaches.enter (mn := .brk) (tag := .imm8) kind .start (by decide)).inv h

theorem inv_poll (s : State) (h : s.inv = true) : s.poll.inv = true := by
  rcases poll_cases s with e | e | e | e | e <;> rw [e]
  · exact h
  · exact inv_enter _ _ h
  · exact inv_enter _ _ h
  · exact h
  · exact h

theorem inv_fetched (s : State) (n : Nat) (h : s.inv = true) : (s.fetched n).inv = true :=
  (Reaches.reads (mn := .nop) (tag := .imp) _ .start).inv h

/-! ### The loop around an instruction -/

/-- The outcomes of the end of a step (R431). -/
theorem endOfStep_cases (s : State) : s.endOfStep = s ∨ s.endOfStep = s.replenish ∨ s.endOfStep = s.replenish.poll := by
  rw [endOfStep_eq_ite]
  split
  · split
    · exact .inr (.inr rfl)
    · exact .inr (.inl rfl)
  · exact .inl rfl

/-- What leads to the next state of a step (R431): a poll when Halted, else an instruction on the charged state after its fetch,
and the end of the step. -/
theorem step_next_cases {s t : State} (h : step s = .next t) :
    (s.run = .halted ∧ t = s.poll) ∨
      s.run = .running ∧ ∃ u, exec s.fetch ((s.charge s.fetch.opcode).fetched (s.fetchLength s.fetch)) = .next u ∧
        t = u.endOfStep := by
  unfold step at h
  split at h
  next => cases h
  next => cases h
  next hrun => exact .inl ⟨hrun, (Host.Outcome.next.inj h).symm⟩
  next hrun =>
    unfold stepRunning at h
    split at h
    next u hu => exact .inr ⟨hrun, u, hu, (Host.Outcome.next.inj h).symm⟩
    next => cases h
    next => cases h

theorem inv_endOfStep (s : State) (h : s.inv = true) : s.endOfStep.inv = true := by
  rcases endOfStep_cases s with e | e | e <;> rw [e]
  · exact h
  · exact h
  · exact inv_poll _ h

/-- Settles O51: the fetch, the instruction, the end of the step and the poll keep the invariant one by one. -/
theorem stepKeepsInvariant : Obligations.StepKeepsInvariant := by
  intro s t hs hstep
  obtain ⟨-, rfl⟩ | ⟨-, u, hu, rfl⟩ := step_next_cases hstep
  · exact inv_poll s hs
  · exact inv_endOfStep u ((reaches_of_exec hu).inv (inv_fetched _ _ hs))

/-- Settles O50: at construction no flag is set, so that R49 and R50 ask for nothing. -/
theorem invariantHoldsAtReset : Obligations.InvariantHoldsAtReset := by
  have hconstruct : ∀ (par : Params) (mem0 : Memory), mem0.wf = true → (State.construct par mem0).inv = true :=
    fun par mem0 hwf => (inv_iff _).mpr ⟨nofun, nofun, hwf⟩
  exact ⟨hconstruct Params.default [] reset_mem_wf, hconstruct⟩

/-! ### The host's inputs -/

/-- What every step owes the host: its exit request, IRQ and the parameters as they were, and no NMI of its own (R450). -/
def KeepsInputs (s t : State) : Prop :=
  t.exitRequest = s.exitRequest ∧ t.irqLine = s.irqLine ∧ t.params = s.params ∧
    (s.nmiPending = false → t.nmiPending = false)

theorem KeepsInputs.trans {s t u : State} (h : KeepsInputs s t) (h' : KeepsInputs t u) : KeepsInputs s u := by
  obtain ⟨hexit, hirq, hpar, hnmi⟩ := h
  obtain ⟨hexit', hirq', hpar', hnmi'⟩ := h'
  exact ⟨hexit'.trans hexit, hirq'.trans hirq, hpar'.trans hpar, fun hn => hnmi' (hnmi hn)⟩

theorem keepsInputs_of_loopInputs {s t : State} (h : t.loopInputs = s.loopInputs) : KeepsInputs s t :=
  ⟨congrArg LoopInputs.exitRequest h, congrArg LoopInputs.irqLine h, congrArg LoopInputs.params h,
    (congrArg LoopInputs.nmiPending h).trans⟩

/-- A poll takes NMI and leaves the other inputs to the host (R436). -/
theorem keepsInputs_poll (s : State) : KeepsInputs s s.poll := by
  rcases poll_cases s with e | e | e | e | e <;> rw [e]
  · exact ⟨rfl, rfl, rfl, id⟩
  · have hlatch : KeepsInputs s { s with nmiPending := false, run := .running } := ⟨rfl, rfl, rfl, fun _ => rfl⟩
    exact hlatch.trans (keepsInputs_of_loopInputs (enter_loopInputs _ _))
  · exact keepsInputs_of_loopInputs (enter_loopInputs _ _)
  · exact ⟨rfl, rfl, rfl, id⟩
  · exact ⟨rfl, rfl, rfl, id⟩

theorem keepsInputs_endOfStep (s : State) : KeepsInputs s s.endOfStep := by
  rcases endOfStep_cases s with e | e | e <;> rw [e]
  · exact ⟨rfl, rfl, rfl, id⟩
  · exact ⟨rfl, rfl, rfl, id⟩
  · exact keepsInputs_poll s.replenish

/-- The charge and the fetch leave the host's inputs alone (R431). -/
theorem keepsInputs_charge_fetched (s : State) (op : Byte) (n : Nat) : KeepsInputs s ((s.charge op).fetched n) :=
  keepsInputs_of_loopInputs (s := s.charge op) (noteReads_loopInputs _ _)

theorem keepsInputs_step {s t : State} (h : step s = .next t) : KeepsInputs s t := by
  obtain ⟨-, rfl⟩ | ⟨-, u, hu, rfl⟩ := step_next_cases h
  · exact keepsInputs_poll s
  · exact ((keepsInputs_charge_fetched s _ _).trans (keepsInputs_of_loopInputs (loopInputs_of_exec hu))).trans
      (keepsInputs_endOfStep u)

/-- Plain RAM has no component behind it (R97). -/
theorem busEvent_of_ram (s : State) (k : Nat) (h : s.params.memory = .ram) : s.busEvent k = s := by
  simp [State.busEvent, State.record, h]

/-- A component behind `P_MEM` adds its event to the history (R97). -/
theorem busEvent_of_bus (s : State) (k : Nat) (h : s.params.memory = .bus) :
    s.busEvent k = { s with bus := .outside k :: s.bus } := by
  simp [State.busEvent, State.record, h]

/-- Settles O58: the moves are the updates they are, and each part of a step keeps the inputs. -/
theorem hostMovesAndWhatStepsOwe : Obligations.HostMovesAndWhatStepsOwe :=
  ⟨fun s _ k => ⟨rfl, rfl, rfl, rfl, busEvent_of_ram s k, busEvent_of_bus s k⟩, fun _ _ h => keepsInputs_step h⟩

end Sys2Proof.Machine
end

section
/-! PROOFS. The canonical form of memory: a memory in it is determined by what it reads (R81, R82; log entry 1). -/

namespace Sys2Proof.Machine

theorem Memory.wfFrom_cons {lo k : Nat} {u : Byte} {rest : Memory} :
    Memory.wfFrom lo ((k, u) :: rest) = true ↔
      lo ≤ k ∧ k < 2 ^ 24 ∧ u ≠ 0 ∧ Memory.wfFrom (k + 1) rest = true := by
  simp only [Memory.wfFrom, Bool.and_eq_true, decide_eq_true_eq, and_assoc]

theorem Memory.read_cons (k : Nat) (u : Byte) (rest : Memory) (a : Nat) :
    Memory.read ((k, u) :: rest) a = if k = a then u else rest.read a := rfl

theorem Memory.read_cons_same (k : Nat) (u : Byte) (rest : Memory) : Memory.read ((k, u) :: rest) k = u :=
  if_pos rfl

/-- The first cell of the canonical form reads as its byte, which is not zero. -/
theorem Memory.read_head_ne_zero {lo k : Nat} {u : Byte} {rest : Memory}
    (h : Memory.wfFrom lo ((k, u) :: rest) = true) : Memory.read ((k, u) :: rest) k ≠ 0 := by
  obtain ⟨-, -, hu, -⟩ := Memory.wfFrom_cons.mp h
  rwa [Memory.read_cons_same]

/-- Below the address from which the cells rise, nothing is listed. -/
theorem Memory.read_eq_zero_of_lt {lo a : Nat} {m : Memory} (h : Memory.wfFrom lo m = true) (ha : a < lo) :
    m.read a = 0 := by
  induction m generalizing lo with
  | nil => rfl
  | cons c rest ih =>
    obtain ⟨k, u⟩ := c
    obtain ⟨hlo, -, -, hrest⟩ := Memory.wfFrom_cons.mp h
    rw [Memory.read_cons, if_neg (by omega)]
    exact ih hrest (by omega)

/-- Where a memory lists its first cell, one that reads the same byte lists a cell too, so it does not begin above it. -/
theorem Memory.head_le {lo lo' k k' : Nat} {u u' : Byte} {m n : Memory}
    (hm : Memory.wfFrom lo ((k, u) :: m) = true) (hn : Memory.wfFrom lo' ((k', u') :: n) = true)
    (h : Memory.read ((k, u) :: m) k = Memory.read ((k', u') :: n) k) : k' ≤ k := by
  obtain ⟨-, hk', hu', hrest⟩ := Memory.wfFrom_cons.mp hn
  by_contra hlt
  have hfrom : Memory.wfFrom k' ((k', u') :: n) = true := Memory.wfFrom_cons.mpr ⟨le_rfl, hk', hu', hrest⟩
  exact Memory.read_head_ne_zero hm (h.trans (Memory.read_eq_zero_of_lt hfrom (by omega)))

/-- The tails of two memories with the same first cell read the same if the memories do. -/
theorem Memory.read_tail_congr {k : Nat} {u : Byte} {m n : Memory}
    (hm : Memory.wfFrom (k + 1) m = true) (hn : Memory.wfFrom (k + 1) n = true)
    (h : ∀ a, Memory.read ((k, u) :: m) a = Memory.read ((k, u) :: n) a) (a : Nat) : m.read a = n.read a := by
  by_cases hka : k = a
  · subst hka
    rw [Memory.read_eq_zero_of_lt hm (by omega), Memory.read_eq_zero_of_lt hn (by omega)]
  · simpa only [Memory.read_cons, if_neg hka] using h a

/-- The canonical form is extensional: the first cells agree, and then the tails do. -/
theorem Memory.eq_of_read_eq {lo lo' : Nat} {m n : Memory} (hm : Memory.wfFrom lo m = true)
    (hn : Memory.wfFrom lo' n = true) (h : ∀ a, m.read a = n.read a) : m = n := by
  induction m generalizing lo lo' n with
  | nil =>
    cases n with
    | nil => rfl
    | cons c rest => exact absurd (h c.1).symm (Memory.read_head_ne_zero hn)
  | cons c m ih =>
    obtain ⟨k, u⟩ := c
    cases n with
    | nil => exact absurd (h k) (Memory.read_head_ne_zero hm)
    | cons c' n =>
      obtain ⟨k', u'⟩ := c'
      obtain rfl : k = k' := le_antisymm (Memory.head_le hn hm (h k').symm) (Memory.head_le hm hn (h k))
      obtain rfl : u = u' := by simpa only [Memory.read_cons_same] using h k
      obtain ⟨-, -, -, hm'⟩ := Memory.wfFrom_cons.mp hm
      obtain ⟨-, -, -, hn'⟩ := Memory.wfFrom_cons.mp hn
      rw [ih hm' hn' (Memory.read_tail_congr hm' hn' h)]

/-- Settles O7: canonical memories are compared cell by cell, and a write is one of them whose reads are known. -/
theorem canonicalMemoryDeterminedByReads : Obligations.CanonicalMemoryDeterminedByReads := by
  refine ⟨fun m n hm hn h => Memory.eq_of_read_eq hm hn h, fun m n a v hm hn ha => ⟨?_, fun h => ?_⟩⟩
  · rintro rfl
    exact Memory.read_write m a v
  · exact Memory.eq_of_read_eq hn (Memory.wf_write m a v hm ha) fun b => (h b).trans (Memory.read_write m a v b).symm

end Sys2Proof.Machine
end

section
/-! PROOFS. Effective addresses of the memory modes: the index at its width, the places of pointer bytes, pointers as
numbers (R142, R144-R156, R160, R161, R170). -/

namespace Sys2Proof.Machine

open Sys2Proof.Claims

variable (s : State)

/-! ### The index registers at their width -/

/-- A register cut to its low byte by a set width flag is its value at the width (R9, R170). -/
theorem index_toNat (narrow : Bool) (v : Word) :
    (if narrow then zextByte (loByte v) else v).toNat = atWidth narrow v := by
  rw [← trunc_ofFlag_toNat]
  cases narrow <;> rfl

theorem idxX_toNat : s.idxX.toNat = atWidth s.p.x s.x := index_toNat s.p.x s.x

theorem idxY_toNat : s.idxY.toNat = atWidth s.p.x s.y := index_toNat s.p.x s.y

theorem idxX_eq : s.idxX = BitVec.ofNat 16 (atWidth s.p.x s.x) := by
  rw [← idxX_toNat, BitVec.ofNat_toNat, BitVec.setWidth_eq]

theorem idxY_eq : s.idxY = BitVec.ofNat 16 (atWidth s.p.x s.y) := by
  rw [← idxY_toNat, BitVec.ofNat_toNat, BitVec.setWidth_eq]

/-! ### Places in a bank -/

theorem inBank_toNat (b : Byte) (o k : Nat) : (inBank b o k).toNat = b.toNat * 65536 + (o + k) % 65536 := by
  have hb := b.isLt
  simp only [inBank, BitVec.toNat_ofNat]
  omega

/-- The place after one in a bank is the next in that bank (R141). -/
@[simp] theorem inbankNext_inBank (b : Byte) (o k : Nat) : inbankNext (inBank b o k) = inBank b o (k + 1) := by
  apply BitVec.eq_of_toNat_eq
  rw [inbankNext_toNat, inBank_toNat, inBank_toNat]
  omega

/-- An address is a place of its bank. -/
theorem eq_inBank_bankOf (a : Addr) : a = inBank (bankOf a) a.toNat 0 := by
  apply BitVec.eq_of_toNat_eq
  rw [inBank_toNat, bankOf_toNat]
  omega

/-- A direct address is in bank 0, with the emulation shortcut and without it (R142). -/
theorem bankOf_directAddr (op ll : Byte) (idx : Word) : bankOf (s.directAddr op ll idx) = 0 := by
  unfold State.directAddr
  split <;> exact bankOf_addrOf _ _

theorem directAddr_eq_inBank (op ll : Byte) (idx : Word) :
    s.directAddr op ll idx = inBank 0 (s.directAddr op ll idx).toNat 0 :=
  bankOf_directAddr s op ll idx ▸ eq_inBank_bankOf (s.directAddr op ll idx)

theorem stackAddr_eq_inBank (ll : Byte) : s.stackAddr ll = inBank 0 (ll.toNat + s.sp.toNat) 0 := by
  apply BitVec.eq_of_toNat_eq
  rw [State.stackAddr, addrOf_toNat, BitVec.toNat_add, zextByte_toNat, inBank_toNat, Nat.add_zero]

/-! ### Pointers -/

/-- The bytes of a run of places as the machine reads them one after the other (R85, R96). -/
theorem byteOf_nil (place : Nat → Addr) (k : Nat) :
    byteOf s [] place k = (s.noteReads ((List.range k).map place)).load (place k) := by
  rw [noteReads_eq_performed, List.map_map]; rfl

/-- A 16-bit pointer in a bank is the word of its two bytes (R85, R147). -/
theorem pointer16_inBank (b : Byte) (o : Nat) :
    s.pointer16 (inBank b o 0) = wordOf (byteOf s [] (inBank b o) 1) (byteOf s [] (inBank b o) 0) := by
  rw [State.pointer16, inbankNext_inBank, byteOf_nil, byteOf_nil]; rfl

/-- A 24-bit pointer in a bank is the address of its three bytes (R85, R148). -/
theorem pointer24_inBank (b : Byte) (o : Nat) :
    s.pointer24 (inBank b o 0) =
      longOf (byteOf s [] (inBank b o) 2) (byteOf s [] (inBank b o) 1) (byteOf s [] (inBank b o) 0) := by
  rw [State.pointer24, inbankNext_inBank, inbankNext_inBank, byteOf_nil, byteOf_nil, byteOf_nil]; rfl

theorem longOf_toNat (hi mid lo : Byte) :
    (longOf hi mid lo).toNat = hi.toNat * 65536 + (mid.toNat * 256 + lo.toNat) := by
  rw [longOf, addrOf_toNat, wordOf_toNat]

variable {s}
variable {a : Addr} {b : Byte} {o : Nat}

theorem pointer16_toNat (h : a = inBank b o 0) :
    (s.pointer16 a).toNat = (byteOf s [] (inBank b o) 0).toNat + 256 * (byteOf s [] (inBank b o) 1).toNat := by
  rw [h, pointer16_inBank, wordOf_toNat]
  omega

theorem pointer24_toNat (h : a = inBank b o 0) :
    (s.pointer24 a).toNat = (byteOf s [] (inBank b o) 0).toNat + 256 * (byteOf s [] (inBank b o) 1).toNat +
      65536 * (byteOf s [] (inBank b o) 2).toNat := by
  rw [h, pointer24_inBank, longOf_toNat]
  omega

/-- DBR over a 16-bit pointer (R147). -/
theorem dataPointer_toNat (h : a = inBank b o 0) :
    (addrOf s.dbr (s.pointer16 a)).toNat = s.dbr.toNat * 65536 +
      ((byteOf s [] (inBank b o) 0).toNat + 256 * (byteOf s [] (inBank b o) 1).toNat) := by
  rw [addrOf_toNat, pointer16_toNat h]

theorem pointerBytes16_eq (h : a = inBank b o 0) : pointerBytes16 a = [inBank b o 0, inBank b o 1] := by
  rw [h, pointerBytes16, inbankNext_inBank]

theorem pointerBytes24_eq (h : a = inBank b o 0) : pointerBytes24 a = [inBank b o 0, inBank b o 1, inBank b o 2] := by
  rw [h, pointerBytes24, inbankNext_inBank, inbankNext_inBank]

/-! ### The obligations on effective addresses -/

/-- Settles O9: the direct address is a place of bank 0, and each mode's pointer is read from there on. -/
theorem directModeAddresses : Obligations.DirectModeAddresses := by
  intro s op ll ix iy p px byte ptr ptrL
  have hx : s.idxX = ix := idxX_eq s
  have hy : s.idxY = iy := idxY_eq s
  have hp : s.directAddr op ll 0 = p 0 := directAddr_eq_inBank s op ll 0
  have hpx : s.directAddr op ll s.idxX = px 0 := hx ▸ directAddr_eq_inBank s op ll ix
  refine ⟨⟨rfl, rfl⟩, ⟨congrArg (s.directAddr op ll) hx, rfl⟩, ⟨congrArg (s.directAddr op ll) hy, rfl⟩,
    ⟨dataPointer_toNat hp, pointerBytes16_eq hp⟩, ⟨pointer24_toNat hp, pointerBytes24_eq hp⟩,
    ⟨dataPointer_toNat hpx, pointerBytes16_eq hpx⟩, ⟨?_, pointerBytes16_eq hp⟩, ⟨?_, pointerBytes24_eq hp⟩⟩
  · rw [MemOperand.ea0, addIndex_toNat, dataPointer_toNat hp, hy]
  · rw [MemOperand.ea0, addIndex_toNat, pointer24_toNat hp, hy]

/-- Settles O10: the index is added to DBR:HHLL, to the long address or to the pointer at the stack-relative place. -/
theorem absoluteAndStackAddresses : Obligations.AbsoluteAndStackAddresses := by
  intro s op ll hhll v ix iy sr
  have hsr : s.stackAddr ll = sr 0 := stackAddr_eq_inBank s ll
  refine ⟨addrOf_toNat s.dbr hhll, ?_, ?_, rfl, ?_, hsr, ?_, ?_, pointerBytes16_eq hsr⟩
  · rw [MemOperand.ea0, addIndex_toNat, addrOf_toNat, idxX_toNat]
  · rw [MemOperand.ea0, addIndex_toNat, addrOf_toNat, idxY_toNat]
  · rw [MemOperand.ea0, addIndex_toNat, idxX_toNat]
  · rw [MemOperand.ea0, addIndex_toNat, dataPointer_toNat hsr, idxY_toNat, ← Nat.add_assoc]
  · simp [MemOperand.pointerReads]

end Sys2Proof.Machine
end

section
/-! PROOFS. The opcode map and the rows of the instructions say the same (R111-R118, R122, R123). -/

namespace Sys2Proof

/-! ### Every instruction stands in the opcode map -/

/-- What an entry makes of an operand of its own form that fits the widths m and x (R113, R114). -/
def OpEntry.ofPayload (m x : Bool) : OpEntry → Payload → Option Instr
  | .imp i, .none => some i
  | .byte mk, .byte v => some (mk v)
  | .word mk, .word v => some (mk v)
  | .long mk, .long v => some (mk v)
  | .immM mk, .word v => if immFits m (.word v) then some (mk v) else none
  | .immX mk, .word v => if immFits x (.word v) then some (mk v) else none
  | .banks mk, .banks dst src => some (mk dst src)
  | _, _ => none

/-- The entry of an instruction's opcode makes it from its operand, if it is well-formed (R114-R116). -/
theorem opEntry_ofPayload (m x : Bool) (i : Instr) :
    (opEntry i.opcode).ofPayload m x i.payload = if i.wellFormed m x then some i else none := by
  cases i <;> dsimp only [Instr.opcode, Instr.row] <;> rfl

@[simp] theorem longOf_bytes (v : Addr) : longOf (bankOf v) (hiByte (offsetOf v)) (loByte (offsetOf v)) = v := by
  simp [longOf]

/-- An immediate that fits its width is what its bytes make (R114). -/
theorem immOf_bytes {narrow : Bool} {v : Word} (h : immFits narrow (.word v) = true) :
    immOf narrow (loByte v) (hiByte v) = v := by
  have hhi : (if narrow = true then 0 else hiByte v) = hiByte v := by
    cases narrow <;> simp_all [immFits]
  rw [immOf, hhi, wordOf_hi_lo]

/-- What an entry makes of an operand it builds from the operand's bytes (R114). -/
theorem exists_build_of_ofPayload {m x : Bool} {e : OpEntry} {q : Payload} {i : Instr}
    (h : e.ofPayload m x q = some i) : ∃ b1 b2 b3, e.build m x b1 b2 b3 = i := by
  unfold OpEntry.ofPayload at h
  split at h
  · exact ⟨0, 0, 0, Option.some.inj h⟩
  · next mk v => exact ⟨v, 0, 0, Option.some.inj h⟩
  · next mk v => exact ⟨loByte v, hiByte v, 0, (congrArg mk (wordOf_hi_lo v)).trans (Option.some.inj h)⟩
  · next mk v =>
    exact ⟨loByte (offsetOf v), hiByte (offsetOf v), bankOf v, (congrArg mk (longOf_bytes v)).trans (Option.some.inj h)⟩
  · next mk v =>
    obtain ⟨hfits, hi⟩ := Option.ite_none_right_eq_some.mp h
    exact ⟨loByte v, hiByte v, 0, (congrArg mk (immOf_bytes hfits)).trans (Option.some.inj hi)⟩
  · next mk v =>
    obtain ⟨hfits, hi⟩ := Option.ite_none_right_eq_some.mp h
    exact ⟨loByte v, hiByte v, 0, (congrArg mk (immOf_bytes hfits)).trans (Option.some.inj hi)⟩
  · next mk dst src => exact ⟨dst, src, 0, Option.some.inj h⟩
  · cases h

/-- Every well-formed instruction is what the decoder makes of its opcode and some bytes after it (R115, R116). -/
theorem exists_decodeBytes_eq {m x : Bool} {i : Instr} (h : i.wellFormed m x = true) :
    ∃ b1 b2 b3, decodeBytes m x i.opcode b1 b2 b3 = i :=
  exists_build_of_ofPayload ((opEntry_ofPayload m x i).trans (if_pos h))

/-- Every immediate fits 16 bits (R114). -/
@[simp] theorem immFits_wide (q : Payload) : immFits false q = true := by
  cases q <;> rfl

/-- At 16-bit widths every instruction is well-formed (R119). -/
theorem wellFormed_wide (i : Instr) : i.wellFormed false false = true := by
  unfold Instr.wellFormed
  split <;> simp

/-! ### What the decoder makes of an opcode byte -/

/-- The operand of a tag made from the bytes after the opcode (R113, R114). -/
def Tag.assemble (m x : Bool) (b1 b2 b3 : Byte) : Tag → Payload
  | .imp | .acc => .none
  | .imm16 | .abs | .absX | .absY | .absInd | .absIndL | .absXInd | .rel16 => .word (wordOf b2 b1)
  | .long | .longX => .long (longOf b3 b2 b1)
  | .immM => .word (immOf m b1 b2)
  | .immX => .word (immOf x b1 b2)
  | .blk => .banks b1 b2
  | .imm8 | .dp | .dpX | .dpY | .dpInd | .dpIndL | .dpXInd | .dpIndY | .dpIndLY | .sr | .srIndY | .rel8 => .byte b1

/-- The bytes and the widths make the operand of what the entry builds, and nothing else of its row. -/
def OpEntry.BuildsItsRow (e : OpEntry) : Prop :=
  ∀ (m x : Bool) (b1 b2 b3 : Byte),
    let zero := e.build false false 0 0 0
    (e.build m x b1 b2 b3).row = ⟨zero.mnemonic, zero.tag, zero.opcode, zero.tag.assemble m x b1 b2 b3⟩

/-- Every entry of the opcode map builds instructions of one row (R115, R116). -/
theorem opMap_buildsItsRow : ∀ row ∈ opMap, ∀ e ∈ row, e.BuildsItsRow := by
  simp only [opMap, opRow0, opRow1, opRow2, opRow3, opRow4, opRow5, opRow6, opRow7, opRow8, opRow9, opRowA, opRowB,
    opRowC, opRowD, opRowE, opRowF, List.forall_mem_cons, List.not_mem_nil, false_implies, implies_true, and_true]
  repeat' constructor
  all_goals exact fun _ _ _ _ _ => rfl

theorem opEntry_buildsItsRow (op : Byte) : (opEntry op).BuildsItsRow :=
  forall_getD (forall_getD (P := fun row : List OpEntry => ∀ e ∈ row, e.BuildsItsRow) opMap_buildsItsRow
    (by simp) _) (fun _ _ _ _ _ => rfl) _

/-- The instruction of an opcode byte with nothing but zero bytes after it. -/
def ofOpcode (op : Byte) : Instr := decodeBytes false false op 0 0 0

/-- The opcode map is in the order of the opcode bytes (R115). -/
theorem ofOpcode_opcode : ∀ op : Byte, (ofOpcode op).opcode = op := by decide

section

variable (m x : Bool) (op b1 b2 b3 : Byte)

/-- The row of what the decoder makes: mnemonic and tag by the opcode byte alone, the operand by the tag (R114-R116). -/
theorem decodeBytes_row :
    (decodeBytes m x op b1 b2 b3).row =
      ⟨(ofOpcode op).mnemonic, (ofOpcode op).tag, op, (ofOpcode op).tag.assemble m x b1 b2 b3⟩ :=
  (opEntry_buildsItsRow op m x b1 b2 b3).trans (congrArg (InstrRow.mk _ _ · _) (ofOpcode_opcode op))

@[simp] theorem decodeBytes_mnemonic : (decodeBytes m x op b1 b2 b3).mnemonic = (ofOpcode op).mnemonic := by
  rw [Instr.mnemonic, decodeBytes_row]

@[simp] theorem decodeBytes_tag : (decodeBytes m x op b1 b2 b3).tag = (ofOpcode op).tag := by
  rw [Instr.tag, decodeBytes_row]

@[simp] theorem decodeBytes_opcode : (decodeBytes m x op b1 b2 b3).opcode = op :=
  congrArg InstrRow.opcode (decodeBytes_row m x op b1 b2 b3)

@[simp] theorem decodeBytes_payload :
    (decodeBytes m x op b1 b2 b3).payload = (ofOpcode op).tag.assemble m x b1 b2 b3 :=
  congrArg InstrRow.payload (decodeBytes_row m x op b1 b2 b3)

/-- An instruction's mnemonic is that of its opcode byte (R115). -/
theorem mnemonic_ofOpcode (i : Instr) : (ofOpcode i.opcode).mnemonic = i.mnemonic := by
  obtain ⟨b1, b2, b3, hi⟩ := exists_decodeBytes_eq (wellFormed_wide i)
  rw [← decodeBytes_mnemonic false false _ b1 b2 b3, hi]

/-- An instruction's tag is that of its opcode byte (R115). -/
theorem tag_ofOpcode (i : Instr) : (ofOpcode i.opcode).tag = i.tag := by
  obtain ⟨b1, b2, b3, hi⟩ := exists_decodeBytes_eq (wellFormed_wide i)
  rw [← decodeBytes_tag false false _ b1 b2 b3, hi]

/-- An entry takes as many bytes as the tag of its opcode byte (R113, R123). -/
theorem opEntry_operandBytes : (opEntry op).operandBytes m x = (ofOpcode op).tag.operandBytes m x := by
  rw [← decodeBytes_tag m x op 0 0 0]
  exact (Nat.add_left_cancel (opEntry_buildsItsLength op m x 0 0 0)).symm

/-! ### Tags and their operands -/

theorem Tag.operandBytes_le (t : Tag) : t.operandBytes m x ≤ 3 := by
  cases t with
  | immM => cases m <;> simp [Tag.operandBytes]
  | immX => cases x <;> simp [Tag.operandBytes]
  | _ => simp [Tag.operandBytes]

theorem opEntry_operandBytes_le : (opEntry op).operandBytes m x ≤ 3 :=
  opEntry_operandBytes m x op ▸ Tag.operandBytes_le m x _

/-- The bytes of an operand made of some bytes are those that its tag takes of them (R114). -/
theorem Tag.bytes_assemble (t : Tag) :
    (t.assemble m x b1 b2 b3).bytes.take (t.operandBytes m x) = [b1, b2, b3].take (t.operandBytes m x) := by
  cases t with
  | immM => cases m <;> simp [Tag.assemble, Payload.bytes, Tag.operandBytes, immOf]
  | immX => cases x <;> simp [Tag.assemble, Payload.bytes, Tag.operandBytes, immOf]
  | _ => simp [Tag.assemble, Payload.bytes, Tag.operandBytes, longOf]

variable {m x b1 b2 b3} in
/-- A tag's operand depends only on the bytes that the tag takes (R113, R114). -/
theorem Tag.assemble_congr {c1 c2 c3 : Byte} (t : Tag)
    (h : [b1, b2, b3].take (t.operandBytes m x) = [c1, c2, c3].take (t.operandBytes m x)) :
    t.assemble m x b1 b2 b3 = t.assemble m x c1 c2 c3 := by
  cases t with
  | immM => cases m <;> simp_all [Tag.assemble, Tag.operandBytes, immOf]
  | immX => cases x <;> simp_all [Tag.assemble, Tag.operandBytes, immOf]
  | _ => simp_all [Tag.assemble, Tag.operandBytes]

/-- An immediate made of the bytes of a width fits it (R114). -/
theorem immFits_immOf (narrow : Bool) : immFits narrow (.word (immOf narrow b1 b2)) = true := by
  cases narrow <;> simp [immFits, immOf]

/-- What the decoder makes is well-formed under the widths it was made with (R114, R119). -/
theorem decodeBytes_wellFormed : (decodeBytes m x op b1 b2 b3).wellFormed m x = true := by
  rw [Instr.wellFormed, decodeBytes_tag, decodeBytes_payload]
  split
  · next ht => rw [ht]; exact immFits_immOf b1 b2 m
  · next ht => rw [ht]; exact immFits_immOf b1 b2 x
  · rfl

/-- The encoding of what the decoder makes: the opcode byte and the bytes it looked at (R113, R114). -/
theorem encode_decodeBytes :
    encode m x (decodeBytes m x op b1 b2 b3) = op :: [b1, b2, b3].take ((ofOpcode op).tag.operandBytes m x) := by
  rw [encode, decodeBytes_opcode, decodeBytes_tag, decodeBytes_payload, Tag.bytes_assemble]

/-! ### The round trips -/

/-- The first bytes of a list that has them, read one by one with a default. -/
theorem take_three_getD {α : Type} {l : List α} {d : α} {n : Nat} (hn : n ≤ 3) (hl : n ≤ l.length) :
    [l.getD 0 d, l.getD 1 d, l.getD 2 d].take n = l.take n := by
  rcases l with _ | ⟨a, _ | ⟨b, _ | ⟨c, l⟩⟩⟩ <;> interval_cases n <;> simp_all

/-- Of the first n bytes of a list and what follows them, the k-th is that of the list. -/
theorem getD_take_append {α : Type} (l rest : List α) (d : α) {n k : Nat} (hk : k < n) (hn : n ≤ l.length) :
    (l.take n ++ rest).getD k d = l.getD k d := by
  rw [List.getD_append _ _ _ _ (by rw [List.length_take]; omega), List.getD_eq_getElem?_getD, List.getElem?_take_of_lt hk,
    List.getD_eq_getElem?_getD]

/-- An opcode byte and as many bytes as its entry takes decode to what is made of them, whatever follows. -/
theorem decode_take_append (rest : List Byte) :
    decode m x (op :: ([b1, b2, b3].take ((opEntry op).operandBytes m x) ++ rest)) =
      .ok (decodeBytes m x op b1 b2 b3, rest) := by
  have hn := opEntry_operandBytes_le m x op
  have hlen : ([b1, b2, b3].take ((opEntry op).operandBytes m x)).length = (opEntry op).operandBytes m x := by
    simpa using hn
  have hget := fun k (hk : k + 1 ≤ (opEntry op).operandBytes m x) => getD_take_append [b1, b2, b3] rest 0 hk hn
  simp only [decode]
  rw [if_neg (by rw [List.length_append, hlen]; omega), List.drop_left' hlen]
  exact congrArg (fun i => Except.ok (i, rest)) (build_congr m x (opEntry op) (hget 0) (hget 1) (hget 2))

/-- A byte list decodes exactly to the instructions whose encoding it begins with, made of the opcode byte and the bytes
after it. -/
theorem decode_eq_ok_iff {bytes rest : List Byte} {i : Instr} :
    decode m x bytes = .ok (i, rest) ↔
      ∃ op b1 b2 b3, decodeBytes m x op b1 b2 b3 = i ∧ encode m x i ++ rest = bytes := by
  constructor
  · intro h
    cases bytes with
    | nil => cases h
    | cons op tail =>
      simp only [decode] at h
      split at h
      · cases h
      · next hlen =>
        simp only [Except.ok.injEq, Prod.mk.injEq] at h
        obtain ⟨rfl, rfl⟩ := h
        refine ⟨op, _, _, _, rfl, ?_⟩
        rw [encode_decodeBytes, ← opEntry_operandBytes, take_three_getD (opEntry_operandBytes_le m x op) (by omega),
          List.cons_append, List.take_append_drop]
  · rintro ⟨op, b1, b2, b3, rfl, rfl⟩
    rw [encode_decodeBytes, ← opEntry_operandBytes]
    exact decode_take_append m x op b1 b2 b3 rest

end

/-! ### The obligations on decoding and encoding -/

/-- Settles O1: the encoding of a well-formed instruction is its opcode byte and the operand bytes that
the decoder makes it of. -/
theorem decodeOfEncodeIsIdentity : Obligations.DecodeOfEncodeIsIdentity := by
  intro m x i rest hwf
  obtain ⟨b1, b2, b3, hi⟩ := exists_decodeBytes_eq hwf
  exact (decode_eq_ok_iff m x).mpr ⟨i.opcode, b1, b2, b3, hi, rfl⟩

/-- Settles O2: what is decoded is made of the bytes that its encoding gives back. -/
theorem encodeOfDecodeIsIdentity : Obligations.EncodeOfDecodeIsIdentity := by
  intro m x bytes i rest h
  obtain ⟨op, b1, b2, b3, rfl, hbytes⟩ := (decode_eq_ok_iff m x).mp h
  exact ⟨decodeBytes_wellFormed m x op b1 b2 b3, hbytes⟩

end Sys2Proof
end

section
/-! PROOFS. What the opcode byte alone says: mnemonic, tag and length (R115, R118, R122, R123). -/

namespace Sys2Proof

/-! ### The opcode byte alone -/

/-- A tag's operand changes its length with the widths exactly if it is one of the two immediates (R122, R123). -/
theorem Tag.operandBytes_varies_iff (t : Tag) :
    (∃ m x m' x' : Bool, t.operandBytes m x ≠ t.operandBytes m' x') ↔ t = .immM ∨ t = .immX := by
  cases t with
  | immM => exact iff_of_true ⟨true, false, false, false, by decide⟩ (.inl rfl)
  | immX => exact iff_of_true ⟨false, true, false, false, by decide⟩ (.inr rfl)
  | _ => simp [Tag.operandBytes]

/-- The twelve opcode bytes whose tag is one of the two immediates (R115, R122). -/
theorem ofOpcode_tag_imm_iff : ∀ op : Byte, (ofOpcode op).tag = .immM ∨ (ofOpcode op).tag = .immX ↔
    op ∈ ([0x09, 0x29, 0x49, 0x69, 0x89, 0xA9, 0xC9, 0xE9, 0xA0, 0xA2, 0xC0, 0xE0] : List Byte) := by
  decide

/-- An instruction's length changes with the widths exactly if its operand's does (R123). -/
theorem length_ne_iff (i : Instr) (m x m' x' : Bool) :
    i.length m x ≠ i.length m' x' ↔ i.tag.operandBytes m x ≠ i.tag.operandBytes m' x' := by
  simp [Instr.length]

/-- Settles O4: decoding is by the opcode's entry, and mnemonic and tag are those of the opcode byte. -/
theorem opcodeByteAloneSelectsInstruction : Obligations.OpcodeByteAloneSelectsInstruction := by
  refine ⟨fun m x op b1 b2 b3 => ?_, fun i j hop => ?_, fun i => ?_⟩
  · have hlen : (decodeBytes m x op b1 b2 b3).length m x = 1 + (opEntry op).operandBytes m x :=
      opEntry_buildsItsLength op m x b1 b2 b3
    have hle := opEntry_operandBytes_le m x op
    refine ⟨decodeBytes m x op b1 b2 b3, ?_, decodeBytes_opcode m x op b1 b2 b3, by omega, by omega⟩
    rw [Machine.decode_four, hlen, Nat.add_comm, List.drop_succ_cons]
  · rw [← mnemonic_ofOpcode i, ← mnemonic_ofOpcode j, ← tag_ofOpcode i, ← tag_ofOpcode j, hop]
    exact ⟨rfl, rfl⟩
  · simp only [length_ne_iff]
    rw [Tag.operandBytes_varies_iff, ← tag_ofOpcode i, ofOpcode_tag_imm_iff]

/-! ### The regular part of the opcode map -/

/-- opcode[4:0] of the accumulator operations, and the tag it stands for (R115). -/
def accumulatorModes : List (Nat × Tag) :=
  [(0x01, .dpXInd), (0x03, .sr), (0x05, .dp), (0x07, .dpIndL), (0x09, .immM), (0x0D, .abs), (0x0F, .long),
   (0x11, .dpIndY), (0x12, .dpInd), (0x13, .srIndY), (0x15, .dpX), (0x17, .dpIndLY), (0x19, .absY),
   (0x1D, .absX), (0x1F, .longX)]

/-- The accumulator operations in the order of opcode[7:5] (R115). -/
def accumulatorOps : List Mnemonic := [.ora, .and, .eor, .adc, .sta, .lda, .cmp, .sbc]

/-- An opcode byte with one of the mode codes is regular, 0x89 apart (R115). -/
theorem ofOpcode_of_mem_accumulatorModes : ∀ op : Byte, op ≠ 0x89 →
    ∀ mode ∈ accumulatorModes, op.toNat % 32 = mode.1 →
      accumulatorOps[op.toNat / 32]? = some (ofOpcode op).mnemonic ∧ (ofOpcode op).tag = mode.2 := by
  decide

/-- The accumulator operations have no other opcode bytes (R115). -/
theorem mem_accumulatorModes_of_ofOpcode : ∀ op : Byte, (ofOpcode op).mnemonic ∈ accumulatorOps →
    (op.toNat % 32, (ofOpcode op).tag) ∈ accumulatorModes ∧ op ≠ 0x89 := by
  decide

/-- Settles O5: mnemonic and tag are those of the opcode byte, and the 256 opcode bytes are as R115 says. -/
theorem accumulatorOpcodeRegularity : Obligations.AccumulatorOpcodeRegularity := by
  intro i
  rw [← mnemonic_ofOpcode i, ← tag_ofOpcode i]
  refine ⟨fun k t hmem hk hne => ofOpcode_of_mem_accumulatorModes i.opcode hne (k, t) hmem hk, fun h => ?_,
    mem_accumulatorModes_of_ofOpcode i.opcode⟩
  rw [h]
  exact ⟨rfl, rfl⟩

/-! ### Operands -/

/-- A memory operand is a source operand, and the other source operands are immediates (R113, R143). -/
theorem memOperand_eq_some_iff (i : Instr) (o : Machine.MemOperand) :
    i.memOperand = some o ↔ i.sourceOperand = some (.mem o) := by
  unfold Instr.memOperand Instr.sourceOperand
  split
  · next ht _ => simp [ht, memOperandOf]
  · next ht _ => simp [ht, memOperandOf]
  · simp

/-- A well-formed instruction's operand is what its tag makes of some bytes, and its encoding has those that the tag takes
(R113, R114). -/
theorem exists_payload_eq_assemble {m x : Bool} {i : Instr} (h : i.wellFormed m x = true) :
    ∃ b1 b2 b3, i.payload = i.tag.assemble m x b1 b2 b3 ∧
      (encode m x i).tail = [b1, b2, b3].take (i.tag.operandBytes m x) := by
  obtain ⟨b1, b2, b3, hi⟩ := exists_decodeBytes_eq h
  rw [← hi, encode_decodeBytes, decodeBytes_payload, decodeBytes_tag]
  exact ⟨b1, b2, b3, rfl, rfl⟩

/-- Well-formed instructions with the same tag and the same encoded operand bytes have the same operand (R113, R114). -/
theorem payload_eq_of_encode_tail_eq {m x : Bool} {i j : Instr} (hi : i.wellFormed m x = true)
    (hj : j.wellFormed m x = true) (htag : i.tag = j.tag) (hbytes : (encode m x i).tail = (encode m x j).tail) :
    i.payload = j.payload := by
  obtain ⟨b1, b2, b3, hpi, hei⟩ := exists_payload_eq_assemble hi
  obtain ⟨c1, c2, c3, hpj, hej⟩ := exists_payload_eq_assemble hj
  rw [hei, hej, htag] at hbytes
  rw [hpi, hpj, htag]
  exact Tag.assemble_congr _ hbytes

/-- Settles O57: source and memory operand are read off the tag and the operand, and the encoding keeps the operand. -/
theorem operandFollowsTagAndBytes : Obligations.OperandFollowsTagAndBytes := by
  refine ⟨fun ll w v => rfl, memOperand_eq_some_iff, fun m x i j hi hj htag hbytes => ?_⟩
  have hpayload := payload_eq_of_encode_tail_eq hi hj htag hbytes
  simp only [Instr.sourceOperand, Instr.memOperand, htag, hpayload, and_self]

/-- Settles O3: the opcode map at these bytes. -/
theorem sampleEncodingsDecode : Obligations.SampleEncodingsDecode := by
  exact ⟨rfl, rfl, rfl, rfl, rfl, rfl, rfl, rfl, rfl, rfl, rfl, rfl, rfl⟩

end Sys2Proof
end

section
/-! PROOFS. WDM under both choices of `P_WDM` (R392, R434, R446). -/

namespace Sys2Proof.Machine

open Sys2Proof.Claims

section

variable {s : State} {sig : Byte}

theorem exec_wdm : exec (.wdm sig) s = .next (wdmOp sig s) := rfl

/-- Under `P_WDM = fault` WDM raises the unmapped-opcode fault (R392, R446). -/
theorem exec_wdm_of_fault (h : s.params.wdm = .fault) :
    exec (.wdm sig) s = .next { s with run := .faulted .unmappedOpcode s.pbr s.pc 0x42, pc := s.pc + 1 } := by
  rw [exec_wdm, wdmOp, h]; rfl

/-- Under `P_WDM = nop2` WDM skips two bytes (R392). -/
theorem exec_wdm_of_nop2 (h : s.params.wdm = .nop2) : exec (.wdm sig) s = .next { s with pc := s.pc + 2 } := by
  rw [exec_wdm, wdmOp, h]; rfl

/-- The end of a step leaves a Faulted state alone (R431, R446). -/
theorem endOfStep_of_faulted {kind : FaultKind} {bank : Byte} {offset : Word} {opcode : Byte}
    (h : s.run = .faulted kind bank offset opcode) : s.endOfStep = s := by
  rw [State.endOfStep, h]

/-- A Running step on WDM under `P_WDM = fault`: the charge, the read of the opcode byte and the fault (R392, R431, R434). -/
theorem step_wdm_of_fault (hwdm : s.params.wdm = .fault) (hrun : s.run = .running)
    (hfetch : s.fetch = .wdm sig) :
    step s = .next { performed { s with cyc := s.cycAfter 0x42, draws := s.drawsAfter } (readsOf (codePlace s) 1) with
      run := .faulted .unmappedOpcode s.pbr s.pc 0x42, pc := s.pc + 1 } := by
  have hop : (Instr.wdm sig).opcode = 0x42 := rfl
  have hlen : s.fetchLength (.wdm sig) = 1 := if_pos ⟨hop, hwdm⟩
  rw [step_of_running s hrun, stepRunning, hfetch, hlen, hop, charge_fetched, exec_wdm_of_fault (by simpa using hwdm)]
  simp only [performed_pbr, performed_pc]
  exact congrArg Host.Outcome.next (endOfStep_of_faulted rfl)

end

/-- Settles O39: the two choices of `P_WDM`, and a step that fetches the opcode byte only and ends at the fault. -/
theorem wdmFaultsOrSkips : Obligations.WdmFaultsOrSkips := by
  intro s sig
  refine ⟨rfl, exec_wdm_of_fault, exec_wdm_of_nop2, fun hwdm hrun hfetch =>
    ⟨_, step_wdm_of_fault hwdm hrun hfetch, ?_, fun cost poll htiming => ?_⟩⟩
  · cases hmem : s.params.memory <;> simp [performed, hmem]
  · simp [cycAfter_of_budget s htiming, drawsAfter_of_budget s htiming]

end Sys2Proof.Machine
end

section
/-! PROOFS. The direct address as a number, and the address of an operand's second byte (R141, R142, R167). -/

namespace Sys2Proof.Machine

variable (s : State) (op ll : Byte) (idx : Word)

theorem loByte_eq_zero_iff (v : Word) : loByte v = 0 ↔ (loByte v).toNat = 0 := by
  rw [← BitVec.toNat_inj]; rfl

/-- The emulation shortcut: the index is added to LL mod 2^8 under DH (R142). -/
theorem shortcut_toNat (hi : Byte) :
    (addrOf 0 (wordOf hi (ll + loByte idx))).toNat = hi.toNat * 256 + (ll.toNat + idx.toNat) % 256 := by
  rw [addrOf_toNat, wordOf_toNat, BitVec.toNat_add, loByte_toNat, Nat.add_mod_mod]
  simp

/-- The direct address without the shortcut: D + LL + idx mod 2^16 (R142). -/
theorem directSum_toNat (d : Word) :
    (addrOf 0 (d + zextByte ll + idx)).toNat = (d.toNat + ll.toNat + idx.toNat) % 65536 := by
  rw [addrOf_toNat, BitVec.toNat_add, BitVec.toNat_add, zextByte_toNat, Nat.mod_add_mod]
  simp

/-- `DirectAddr` as a number (R142). -/
theorem directAddr_toNat :
    (s.directAddr op ll idx).toNat =
      if s.params.dpExempt ≠ some op ∧ s.p.e = true ∧ (loByte s.d).toNat = 0 then
        (hiByte s.d).toNat * 256 + (ll.toNat + idx.toNat) % 256
      else (s.d.toNat + ll.toNat + idx.toNat) % 65536 := by
  rw [State.directAddr, apply_ite BitVec.toNat, shortcut_toNat, directSum_toNat]
  simp only [loByte_eq_zero_iff]

/-- Settles O8: where LL + idx stays in the page, the shortcut under DH is D + LL + idx, because DL is zero. -/
theorem directAddressFunction : Obligations.DirectAddressFunction := by
  intro s op ll idx
  refine ⟨directAddr_toNat s op ll idx, bankOf_directAddr s op ll idx, fun hpage => ?_⟩
  rw [directAddr_toNat]
  split
  · next hshort =>
    obtain ⟨-, -, hdl⟩ := hshort
    have hd := s.d.isLt
    rw [loByte_toNat] at hdl
    rw [hiByte_toNat]
    omega
  · rfl

/-! ### The second byte of an operand -/

/-- In bank 0 the next address in the bank is the next offset (R141). -/
theorem inbankNext_toNat_of_bankOf_eq_zero {a : Addr} (h : bankOf a = 0) :
    (inbankNext a).toNat = (a.toNat + 1) % 65536 := by
  have hbank : a.toNat / 65536 = 0 := by rw [← bankOf_toNat, h]; rfl
  rw [inbankNext_toNat]
  omega

theorem bankOf_stackAddr : bankOf (s.stackAddr ll) = 0 := bankOf_addrOf _ _

/-- Settles O11: direct and stack-relative operands are in bank 0 and their second byte is in-bank next; the other modes take
the next of 24 bits. -/
theorem secondByteAddress : Obligations.SecondByteAddress := by
  intro s op o
  cases o with
  | dp ll | dpX ll | dpY ll => exact inbankNext_toNat_of_bankOf_eq_zero (bankOf_directAddr s op ll _)
  | sr ll => exact inbankNext_toNat_of_bankOf_eq_zero (bankOf_stackAddr s ll)
  | dpInd | dpIndL | dpXInd | dpIndY | dpIndLY | abs | absX | absY | long | longX | srIndY => exact next24_toNat _

end Sys2Proof.Machine
end

section
/-! PROOFS. The read-modify-write instructions: what they compute as numbers, and where they read and write it (R241, R257, R258,
R263-R266). -/

namespace Sys2Proof

open Sys2Proof.Machine

/-- The instruction length is that of its memory operand (R113, R123). -/
theorem length_of_memOperandOf {t : Tag} {q : Payload} {o : MemOperand} (h : memOperandOf t q = some o) (m x : Bool) :
    o.length = 1 + t.operandBytes m x := by
  unfold memOperandOf at h
  split at h <;> cases h <;> rfl

theorem length_of_memOperand {i : Instr} {o : MemOperand} (h : i.memOperand = some o) (m x : Bool) :
    o.length = i.length m x :=
  length_of_memOperandOf h m x

/-- The operand of a read-modify-write instruction: the accumulator or its memory operand (R164, R241). -/
def Instr.rmwOperand (i : Instr) : Option RmwOperand :=
  if i.tag = .acc then some .acc else i.memOperand.map .mem

end Sys2Proof

namespace Sys2Proof.Machine

open Sys2Proof.Claims

/-! ### Widths and values -/

theorem bits_ofFlag (narrow : Bool) : (Width.ofFlag narrow).bits = bitsOf narrow := by cases narrow <;> rfl

theorem merge_ofFlag (narrow : Bool) (old v : Word) : (Width.ofFlag narrow).merge old v = putAt narrow old v := by
  cases narrow <;> rfl

theorem two_pow_bitsOf_le (narrow : Bool) : 2 ^ bitsOf narrow ≤ 2 ^ 16 := by cases narrow <;> decide

theorem atWidth_lt (narrow : Bool) (v : Word) : atWidth narrow v < 2 ^ bitsOf narrow :=
  Nat.mod_lt _ (Nat.two_pow_pos _)

/-- A value read at a width is below 2^w (R9). -/
theorem readAt_toNat_lt (s : State) (narrow : Bool) (ea : Ea) :
    (s.readAt (Width.ofFlag narrow) ea).toNat < 2 ^ bitsOf narrow := by
  cases narrow
  · exact BitVec.isLt _
  · exact (zextByte_toNat _).trans_lt (BitVec.isLt _)

/-- n and z of a result below 2^w (R10, R41). -/
theorem setNZ_ofNat (s : State) (narrow : Bool) {r : Nat} (h : r < 2 ^ bitsOf narrow) :
    s.setNZ (Width.ofFlag narrow) (BitVec.ofNat 16 r) = { s with p := nzOf s.p narrow r } := by
  have hr : (BitVec.ofNat 16 r).toNat = r := Nat.mod_eq_of_lt (h.trans_le (two_pow_bitsOf_le narrow))
  have htrunc : (Width.ofFlag narrow).trunc (BitVec.ofNat 16 r) = 0 ↔ r = 0 := by
    rw [← BitVec.toNat_inj, trunc_toNat, hr, bits_ofFlag, Nat.mod_eq_of_lt h]
    rfl
  simp only [State.setNZ, nzOf, sign_eq, bits_ofFlag, hr, Nat.mod_eq_of_lt h, htrunc]

/-! ### Results -/

/-- A result stays below 2^w (R257, R258, R263-R266). -/
theorem rmwResult_lt (mn : Mnemonic) (narrow c : Bool) {v : Nat} (hv : v < 2 ^ bitsOf narrow) :
    (rmwResult mn (bitsOf narrow) v c).1 < 2 ^ bitsOf narrow := by
  have hmod : ∀ k, k % 2 ^ bitsOf narrow < 2 ^ bitsOf narrow := fun k => Nat.mod_lt _ (Nat.two_pow_pos _)
  have hc : c.toNat * 2 ^ (bitsOf narrow - 1) ≤ 2 ^ (bitsOf narrow - 1) := by cases c <;> simp
  have hhalf : 2 ^ (bitsOf narrow - 1) * 2 = 2 ^ bitsOf narrow := by cases narrow <;> rfl
  unfold rmwResult
  split
  · exact hmod _
  · exact hmod _
  · exact hmod _
  · show v / 2 < _
    omega
  · exact hmod _
  · show v / 2 + c.toNat * 2 ^ (bitsOf narrow - 1) < _
    omega
  · exact hv

/-- A result and its carry in the machine's words. -/
def resultWords (r : Nat × Bool) : Word × Bool := (BitVec.ofNat 16 r.1, r.2)

theorem eq_resultWords {r : Word × Bool} {n : Nat × Bool} (hvalue : r.1.toNat = n.1) (hcarry : r.2 = n.2) :
    r = resultWords n := by
  refine Prod.ext ?_ hcarry
  rw [resultWords, ← hvalue, BitVec.ofNat_toNat, BitVec.setWidth_eq]

section

variable (narrow c : Bool) {v : Word} (hv : v.toNat < 2 ^ bitsOf narrow)

theorem inc_resultWords :
    ((Width.ofFlag narrow).trunc (v + 1), c) = resultWords (rmwResult .inc (bitsOf narrow) v.toNat c) := by
  refine eq_resultWords ?_ rfl
  rw [trunc_toNat, bits_ofFlag, BitVec.toNat_add]
  cases narrow <;> simp [bitsOf, rmwResult]

theorem dec_resultWords :
    ((Width.ofFlag narrow).trunc (v - 1), c) = resultWords (rmwResult .dec (bitsOf narrow) v.toNat c) := by
  refine eq_resultWords ?_ rfl
  rw [trunc_toNat, bits_ofFlag, BitVec.toNat_sub]
  cases narrow <;> simp [bitsOf, rmwResult] <;> omega

include hv in
/-- The top bit of a value, the carry of ASL and ROL (R263, R265). -/
theorem sign_ofFlag : (Width.ofFlag narrow).sign v = decide (2 ^ (bitsOf narrow - 1) ≤ v.toNat) := by
  rw [sign_eq, bits_ofFlag, Nat.mod_eq_of_lt hv]

include hv in
theorem asl_resultWords :
    aslResult (Width.ofFlag narrow) v = resultWords (rmwResult .asl (bitsOf narrow) v.toNat c) :=
  eq_resultWords ((aslResult_toNat _ v).trans (by rw [bits_ofFlag]; rfl)) (sign_ofFlag narrow hv)

theorem lsr_resultWords :
    lsrResult (Width.ofFlag narrow) v = resultWords (rmwResult .lsr (bitsOf narrow) v.toNat c) :=
  eq_resultWords (lsrResult_toNat _ v) (getLsbD_zero_eq v)

include hv in
theorem rol_resultWords :
    rolResult (Width.ofFlag narrow) c v = resultWords (rmwResult .rol (bitsOf narrow) v.toNat c) :=
  eq_resultWords ((rolResult_toNat _ c v).trans (by rw [bits_ofFlag]; rfl)) (sign_ofFlag narrow hv)

include hv in
theorem ror_resultWords :
    rorResult (Width.ofFlag narrow) c v = resultWords (rmwResult .ror (bitsOf narrow) v.toNat c) :=
  eq_resultWords ((rorResult_toNat _ c v (by rwa [bits_ofFlag])).trans (by rw [bits_ofFlag]; rfl)) (getLsbD_zero_eq v)

end

/-! ### The meaning of the thirty forms -/

/-- A result is written at the operand's width, to where the operand was read, and flags and PC follow (R241). -/
def rmwWritten (op : Byte) (o : RmwOperand) (s : State) (r : Word × Bool) : State :=
  (((o.write s.wA op s r.1).setC r.2).setNZ s.wA r.1).advance o.length

section

variable (op : Byte) (o : RmwOperand) (s : State)

/-- The operand's value at the width of A is below 2^w (R9, R241). -/
theorem rmw_read_lt : (o.read s.wA op s).toNat < 2 ^ bitsOf s.p.m := by
  cases o with
  | acc => exact (trunc_ofFlag_toNat s.p.m s.a).trans_lt (atWidth_lt s.p.m s.a)
  | mem o => exact readAt_toNat_lt _ s.p.m _

theorem rmw_write_p_pc (w : Width) (v : Word) : (o.write w op s v).p = s.p ∧ (o.write w op s v).pc = s.pc := by
  cases o with
  | acc => exact ⟨rfl, rfl⟩
  | mem o => simp [RmwOperand.write, MemOperand.afterRead, MemOperand.resolved]

/-- INC and DEC keep the carry, which writes it as it is (R257, R258). -/
theorem rmw_write_setC (w : Width) (v : Word) : (o.write w op s v).setC s.p.c = o.write w op s v := by
  obtain ⟨hp, -⟩ := rmw_write_p_pc op o s w v
  rw [State.setC, ← hp]

/-- The state after the read-modify-write instruction with this mnemonic. -/
def rmwAfter (mn : Mnemonic) : State :=
  rmwWritten op o s (resultWords (rmwResult mn (bitsOf s.p.m) (o.read s.wA op s).toNat s.p.c))

theorem incOp_eq : incOp op o s = rmwAfter op o s .inc := by
  rw [rmwAfter, ← inc_resultWords, rmwWritten, rmw_write_setC]; rfl

theorem decOp_eq : decOp op o s = rmwAfter op o s .dec := by
  rw [rmwAfter, ← dec_resultWords, rmwWritten, rmw_write_setC]; rfl

theorem aslOp_eq : aslOp op o s = rmwAfter op o s .asl :=
  congrArg (rmwWritten op o s) (asl_resultWords s.p.m s.p.c (rmw_read_lt op o s))

theorem lsrOp_eq : lsrOp op o s = rmwAfter op o s .lsr :=
  congrArg (rmwWritten op o s) (lsr_resultWords s.p.m s.p.c)

theorem rolOp_eq : rolOp op o s = rmwAfter op o s .rol :=
  congrArg (rmwWritten op o s) (rol_resultWords s.p.m s.p.c (rmw_read_lt op o s))

theorem rorOp_eq : rorOp op o s = rmwAfter op o s .ror :=
  congrArg (rmwWritten op o s) (ror_resultWords s.p.m s.p.c (rmw_read_lt op o s))

end

/-- Every read-modify-write instruction has an operand, and its meaning is the result of its mnemonic written there. -/
theorem exec_rmw {i : Instr} (s : State) (h : i.mnemonic ∈ rmwMnemonics) :
    ∃ o, i.rmwOperand = some o ∧ exec i s = .next (rmwAfter i.opcode o s i.mnemonic) := by
  cases i with dsimp only [Instr.mnemonic, Instr.row] at h
  | incAcc | incDp | incAbs | incDpX | incAbsX => exact ⟨_, rfl, congrArg _ (incOp_eq _ _ s)⟩
  | decAcc | decDp | decAbs | decDpX | decAbsX => exact ⟨_, rfl, congrArg _ (decOp_eq _ _ s)⟩
  | aslAcc | aslDp | aslAbs | aslDpX | aslAbsX => exact ⟨_, rfl, congrArg _ (aslOp_eq _ _ s)⟩
  | lsrAcc | lsrDp | lsrAbs | lsrDpX | lsrAbsX => exact ⟨_, rfl, congrArg _ (lsrOp_eq _ _ s)⟩
  | rolAcc | rolDp | rolAbs | rolDpX | rolAbsX => exact ⟨_, rfl, congrArg _ (rolOp_eq _ _ s)⟩
  | rorAcc | rorDp | rorAbs | rorDpX | rorAbsX => exact ⟨_, rfl, congrArg _ (rorOp_eq _ _ s)⟩
  | _ => exact absurd h (by decide)

/-! ### The obligations on read-modify-write -/

/-- An update that leaves memory, its history and the parameters alone does not meet the accesses (R96). -/
theorem performed_update (s : State) (f : State → State)
    (hf : ∀ m b, f { s with mem := m, bus := b } = { f s with mem := m, bus := b }) (hpar : (f s).params = s.params)
    (events : List BusEvent) : performed (f s) events = f (performed s events) := by
  have hmem : (f s).mem = s.mem := (congrArg State.mem (hf s.mem s.bus) :)
  have hbus : (f s).bus = s.bus := (congrArg State.bus (hf s.mem s.bus) :)
  obtain ⟨hm, hb⟩ := performed_congr hmem hbus (congrArg Params.memory hpar) events
  rw [performed_eq (f s), hm, hb]
  exact (hf _ _).symm.trans (congrArg f (performed_eq s events).symm)

/-- A result below 2^w is written, and beside that only flags and PC change (R241). -/
theorem rmwWritten_eq (op : Byte) (o : RmwOperand) (s : State) {r : Nat × Bool} (h : r.1 < 2 ^ bitsOf s.p.m) :
    rmwWritten op o s (resultWords r) =
      { o.write s.wA op s (BitVec.ofNat 16 r.1) with p := rmwFlags s.p r, pc := s.pc + BitVec.ofNat 16 o.length } := by
  obtain ⟨hp, hpc⟩ := rmw_write_p_pc op o s s.wA (BitVec.ofNat 16 r.1)
  rw [rmwWritten, resultWords, State.wA, setNZ_ofNat _ _ h, ← State.wA, State.advance, setC_p, setC_pc, hp, hpc]
  rfl

/-- The accesses of a memory form: the operand's reads, then its stores (R96, R241). -/
theorem rmw_write_mem (op : Byte) (o : MemOperand) (s : State) (v : Word) :
    (RmwOperand.mem o).write s.wA op s v =
      performed s (operandEvents s.p.m op s (.mem o) ++ operandWrites s.p.m (o.ea op s) v) := by
  rw [performed_append, ← operand_afterRead_eq, ← writeAt_ofFlag]
  rfl

/-- In plain RAM a memory form stores the result at the operand's address and changes no other byte (R85, R241). -/
theorem rmw_write_mem_storesAt (op : Byte) (o : MemOperand) (s : State) (v : Word) (hram : s.params.memory = .ram) :
    StoresAt s ((RmwOperand.mem o).write s.wA op s v) s.p.m (o.ea op s) v := by
  have hread : o.afterRead s.wA op s = s := by
    rw [MemOperand.afterRead, MemOperand.resolved, noteReads_of_ram s _ hram, noteReads_of_ram s _ hram]
  rw [RmwOperand.write, hread]
  exact writeAt_storesAt s s.p.m _ v hram (ea_hi_ne_lo s o op)

/-- Settles O23: the accumulator is read and written at its width. -/
theorem readModifyWriteAccumulator : Obligations.ReadModifyWriteAccumulator := by
  intro i s hmn htag r
  obtain ⟨o, ho, hexec⟩ := exec_rmw s hmn
  obtain rfl : RmwOperand.acc = o := by simpa [Instr.rmwOperand, htag] using ho
  have hread : (RmwOperand.acc.read s.wA i.opcode s).toNat = atWidth s.p.m s.a := trunc_ofFlag_toNat s.p.m s.a
  have hlt : r.1 < 2 ^ bitsOf s.p.m := rmwResult_lt i.mnemonic s.p.m s.p.c (atWidth_lt s.p.m s.a)
  rw [hexec, rmwAfter, hread, rmwWritten_eq _ _ s hlt, RmwOperand.write, State.setA, State.wA, merge_ofFlag]
  rfl

/-- Settles O24: the result is written where the operand was read. -/
theorem readModifyWriteMemory : Obligations.ReadModifyWriteMemory := by
  intro i s hmn htag
  obtain ⟨o, ho, hexec⟩ := exec_rmw s hmn
  obtain ⟨o, hmem, rfl⟩ : ∃ a, i.memOperand = some a ∧ .mem a = o := by simpa [Instr.rmwOperand, htag] using ho
  refine ⟨o, hmem, ?_⟩
  intro ea r before t
  have hread : (RmwOperand.mem o).read s.wA i.opcode s = operandValue s.p.m i.opcode s (.mem o) :=
    operand_read_eq s.p.m i.opcode s (.mem o)
  have hlt := hread ▸ rmw_read_lt i.opcode (.mem o) s
  have ht : t = { (RmwOperand.mem o).write s.wA i.opcode s r.1 with p := r.2, pc := pcAfter i s } := by
    rw [rmw_write_mem]
    exact performed_update s (fun u => { u with p := r.2, pc := pcAfter i s }) (fun _ _ => rfl) rfl _
  constructor
  · rw [hexec, rmwAfter, hread, rmwWritten_eq _ _ s (rmwResult_lt i.mnemonic s.p.m s.p.c hlt), ht, pcAfter,
      ← length_of_memOperand hmem]
    rfl
  · intro hram
    rw [ht]
    exact rmw_write_mem_storesAt i.opcode o s r.1 hram

end Sys2Proof.Machine
end

section
/-! PROOFS. Block moves: one iteration, the whole run, and what a run copies (R166, R421-R424). -/

namespace Sys2Proof.Machine

open Sys2Proof.Claims

/-! ### Registers at a width and their steps -/

section

variable (narrow : Bool) (old v : Word) (delta : Int) (n k : Nat)

theorem atWidth_putAt : atWidth narrow (putAt narrow old v) = atWidth narrow v := by
  cases narrow
  · rfl
  · simp [atWidth, putAt, bitsOf, wordOf_toNat, loByte_toNat]

theorem putAt_putAt (w : Word) : putAt narrow (putAt narrow old v) w = putAt narrow old w := by
  cases narrow <;> simp [putAt]

theorem putAt_self : putAt narrow old old = old := by
  cases narrow <;> simp [putAt]

variable {narrow v} in
/-- A write at a width sees of the value only what the width keeps (R10). -/
theorem putAt_congr {w : Word} (h : atWidth narrow v = atWidth narrow w) : putAt narrow old v = putAt narrow old w := by
  cases narrow
  · apply BitVec.eq_of_toNat_eq
    simpa [atWidth, bitsOf, putAt, Nat.mod_eq_of_lt v.isLt, Nat.mod_eq_of_lt w.isLt] using h
  · have hlo : loByte v = loByte w := BitVec.eq_of_toNat_eq (by rw [loByte_toNat, loByte_toNat]; exact h)
    simp [putAt, hlo]

theorem indexAfter_toNat :
    ((indexAfter narrow v delta n).toNat : Int) = ((atWidth narrow v : Int) + delta * n) % 2 ^ bitsOf narrow := by
  have hpos : (0 : Int) < 2 ^ bitsOf narrow := by positivity
  have hle : (2 : Int) ^ bitsOf narrow ≤ 65536 := by cases narrow <;> decide
  have hlo := Int.emod_nonneg ((atWidth narrow v : Int) + delta * n) hpos.ne'
  have hlt := Int.emod_lt_of_pos ((atWidth narrow v : Int) + delta * n) hpos
  rw [indexAfter, BitVec.toNat_ofNat]
  omega

theorem atWidth_indexAfter :
    (atWidth narrow (indexAfter narrow v delta n) : Int) =
      ((atWidth narrow v : Int) + delta * n) % 2 ^ bitsOf narrow := by
  rw [atWidth, Int.natCast_mod, indexAfter_toNat, Nat.cast_pow, Nat.cast_ofNat, Int.emod_emod]

/-- Two offsets are the same if they are so mod 2^w (R422). -/
theorem indexAfter_eq_iff (v w : Word) :
    indexAfter narrow v delta n = indexAfter narrow w delta k ↔
      (atWidth narrow v : Int) + delta * n ≡ atWidth narrow w + delta * k [ZMOD 2 ^ bitsOf narrow] := by
  rw [← BitVec.toNat_inj, ← Int.natCast_inj, indexAfter_toNat, indexAfter_toNat]
  rfl

/-- No iteration leaves the offset at its width. -/
theorem indexAfter_zero : indexAfter narrow v delta 0 = BitVec.ofNat 16 (atWidth narrow v) := by
  have hlt : ((atWidth narrow v : Nat) : Int) < 2 ^ bitsOf narrow := by exact_mod_cast atWidth_lt narrow v
  rw [indexAfter, Nat.cast_zero, mul_zero, add_zero, Int.emod_eq_of_lt (Int.natCast_nonneg _) hlt, Int.toNat_natCast]

/-- Iterations after iterations, the register stepped in between (R422). -/
theorem indexAfter_putAt :
    indexAfter narrow (putAt narrow old (indexAfter narrow v delta n)) delta k = indexAfter narrow v delta (n + k) := by
  apply BitVec.eq_of_toNat_eq
  zify
  rw [indexAfter_toNat, indexAfter_toNat, atWidth_putAt, atWidth_indexAfter, Int.emod_add_emod, add_assoc, ← mul_add,
    Nat.cast_add]

theorem putAt_indexAfter_zero : putAt narrow v (indexAfter narrow v delta 0) = v := by
  have h : atWidth narrow (indexAfter narrow v delta 0) = atWidth narrow v := by
    zify
    rw [atWidth_indexAfter, Nat.cast_zero, mul_zero, add_zero]
    exact Int.emod_eq_of_lt (Int.natCast_nonneg _) (by exact_mod_cast atWidth_lt narrow v)
  rw [putAt_congr v h, putAt_self]

/-- The machine's step of a register, narrowed when it is written, is the claims' (R422, R423). -/
theorem putAt_step :
    putAt narrow old (BitVec.ofNat 16 (atWidth narrow v) + BitVec.ofInt 16 delta) =
      putAt narrow old (indexAfter narrow v delta 1) := by
  apply putAt_congr
  zify
  rw [atWidth_indexAfter, atWidth, BitVec.toNat_add, BitVec.toNat_ofInt, BitVec.toNat_ofNat]
  cases narrow <;> simp only [bitsOf] <;> simp <;> omega

end

/-! ### One iteration -/

/-- MVP and MVN with these banks. -/
def blockMove (down : Bool) (dst src : Byte) : Instr := if down then .mvp dst src else .mvn dst src

/-- The step of X and Y (R422, R423). -/
def blockDelta (down : Bool) : Int := if down then -1 else 1

section

variable (s : State) (dst src : Byte) (delta : Int) (n : Nat)

/-- The state n iterations after `s`, memory apart (R421-R423). -/
def movedState : State :=
  { s with a := s.a - BitVec.ofNat 16 n, x := putAt s.p.x s.x (indexAfter s.p.x s.x delta n),
           y := putAt s.p.x s.y (indexAfter s.p.x s.y delta n), dbr := if n = 0 then s.dbr else dst,
           pc := if n = s.a.toNat + 1 then s.pc + 3 else s.pc }

/-- The machine's pair of addresses is that of the first iteration (R166). -/
theorem blockAddrs_eq : s.blockAddrs dst src = (blockSource s src delta 0, blockDest s dst delta 0) := by
  unfold State.blockAddrs blockSource blockDest
  rw [indexAfter_zero, indexAfter_zero, idxX_eq, idxY_eq]
  cases s.params.blockRoles <;> simp

theorem movedState_zero : movedState s dst delta 0 = s := by
  simp [movedState, putAt_indexAfter_zero]

theorem movedState_one :
    movedState s dst delta 1 =
      { s with a := s.a - 1, x := putAt s.p.x s.x (indexAfter s.p.x s.x delta 1),
               y := putAt s.p.x s.y (indexAfter s.p.x s.y delta 1), dbr := dst,
               pc := if s.a = 0 then s.pc + 3 else s.pc } := by
  have hlast : s.a.toNat = 0 ↔ s.a = 0 := by rw [← BitVec.toNat_inj]; rfl
  simp [movedState, hlast]

/-- One more iteration, while the count lasts. -/
theorem movedState_succ (m : Memory) (hn : n ≤ s.a.toNat) :
    movedState { movedState s dst delta n with mem := m } dst delta 1 =
      { movedState s dst delta (n + 1) with mem := m } := by
  have hcount : (s.a - BitVec.ofNat 16 n).toNat = s.a.toNat - n := by
    have := s.a.isLt
    rw [BitVec.toNat_sub, BitVec.toNat_ofNat]
    omega
  have ha : s.a - BitVec.ofNat 16 n - 1#16 = s.a - BitVec.ofNat 16 (n + 1) := by rw [BitVec.ofNat_add, ← sub_sub]
  have hlast : s.a.toNat - n = 0 ↔ n = s.a.toNat := by omega
  simp [movedState, putAt_putAt, indexAfter_putAt, hcount, ha, hlast, show n ≠ s.a.toNat + 1 by omega]

/-- The source and destination of an iteration are the first of the state it begins with. -/
theorem blockSource_movedState (m : Memory) :
    blockSource { movedState s dst delta n with mem := m } src delta 0 = blockSource s src delta n := by
  unfold blockSource movedState
  dsimp only
  split <;> rw [indexAfter_putAt, Nat.add_zero]

theorem blockDest_movedState (m : Memory) :
    blockDest { movedState s dst delta n with mem := m } dst delta 0 = blockDest s dst delta n := by
  unfold blockDest movedState
  dsimp only
  split <;> rw [indexAfter_putAt, Nat.add_zero]

theorem performed_read_write (q r : Addr) (v : Byte) :
    performed s [.read q, .write r v] = (s.noteRead q).store r v := by
  rw [store_eq_performed, noteRead_eq_performed, ← performed_append]
  rfl

/-- The machine's iteration: the byte is read and then written, and the registers step (R421). -/
theorem blockMoveStep_eq :
    blockMoveStep (BitVec.ofInt 16 delta) dst src s =
      performed (movedState s dst delta 1)
        [.read (blockSource s src delta 0), .write (blockDest s dst delta 0) (s.load (blockSource s src delta 0))] := by
  have hx : putAt s.p.x s.x (indexAfter s.p.x s.x delta 1) = s.wX.merge s.x (s.idxX + BitVec.ofInt 16 delta) := by
    rw [State.wX, merge_ofFlag, idxX_eq, putAt_step]
  have hy : putAt s.p.x s.y (indexAfter s.p.x s.y delta 1) = s.wX.merge s.y (s.idxY + BitVec.ofInt 16 delta) := by
    rw [State.wX, merge_ofFlag, idxY_eq, putAt_step]
  have hlast : s.a - 1 ≠ 0xFFFF ↔ ¬ s.a = 0 := by
    constructor <;> intro h <;> bv_omega
  rw [movedState_one, performed_update s (fun u => { u with
    a := s.a - 1, x := putAt s.p.x s.x (indexAfter s.p.x s.x delta 1),
    y := putAt s.p.x s.y (indexAfter s.p.x s.y delta 1), dbr := dst, pc := if s.a = 0 then s.pc + 3 else s.pc })
    (fun _ _ => rfl) rfl, performed_read_write, hx, hy, blockMoveStep, blockAddrs_eq s dst src delta]
  by_cases ha : s.a = 0
  · rw [if_pos ha, if_neg (not_not.mpr ha ∘ hlast.mp)]; rfl
  · rw [if_neg ha, if_pos (hlast.mpr ha)]; rfl

theorem exec_blockMove (down : Bool) :
    exec (blockMove down dst src) s = .next (blockMoveStep (BitVec.ofInt 16 (blockDelta down)) dst src s) := by
  cases down <;> rfl

/-- One execution of MVP or MVN is one iteration (R421-R423). -/
theorem movesOneByte (down : Bool) : MovesOneByte (blockMove down dst src) dst src (blockDelta down) s := by
  unfold MovesOneByte
  intro source dest t
  have ht : t = performed (movedState s dst (blockDelta down) 1) [.read source, .write dest (s.load source)] := by
    rw [movedState_one, show s.load source = byteAfter s [] source by rw [byteAfter, performed_nil]]
  refine ⟨?_, fun hram => ?_⟩
  · rw [exec_blockMove, blockMoveStep_eq, ht]
  · rw [ht, performed_read_write, noteRead_of_ram (movedState s dst _ 1) _ hram]
    exact ⟨load_store_same _ dest _ hram, fun q hq => load_store_other _ dest q _ hram hq⟩

end

/-- Settles O43. -/
theorem blockMoveIteration : Obligations.BlockMoveIteration :=
  ⟨fun _ _ => rfl, fun s dst src => ⟨movesOneByte s dst src false, movesOneByte s dst src true⟩⟩

/-! ### A run of iterations -/

theorem execTimes_of_next {i : Instr} {s t : State} (h : exec i s = .next t) (n : Nat) :
    execTimes i (n + 1) s = execTimes i n t := by
  rw [execTimes, h]

/-- A run and one more execution after it. -/
theorem execTimes_succ {i : Instr} {n : Nat} {s t u : State} (hrun : execTimes i n s = some t)
    (hexec : exec i t = .next u) : execTimes i (n + 1) s = some u := by
  induction n generalizing s with
  | zero =>
    obtain rfl : s = t := Option.some.inj hrun
    exact execTimes_of_next hexec 0
  | succ n ih =>
    obtain ⟨v, hfirst, -⟩ := exec_next_loopInputs s i
    rw [execTimes_of_next hfirst] at hrun ⊢
    exact ih hrun

section

variable (s : State) (dst src : Byte) (down : Bool) (hram : s.params.memory = .ram)

include hram in
/-- In plain RAM an execution of MVP or MVN copies one byte, and the registers step. -/
theorem exec_blockMove_of_ram : ∃ m : Memory,
    exec (blockMove down dst src) s = .next { movedState s dst (blockDelta down) 1 with mem := m } ∧
      ∀ q, ({ movedState s dst (blockDelta down) 1 with mem := m } : State).load q =
        if q = blockDest s dst (blockDelta down) 0 then s.load (blockSource s src (blockDelta down) 0) else s.load q := by
  refine ⟨(movedState s dst (blockDelta down) 1).mem.write (blockDest s dst (blockDelta down) 0).toNat
    (s.load (blockSource s src (blockDelta down) 0)), ?_⟩
  rw [exec_blockMove, blockMoveStep_eq, performed_read_write, noteRead_of_ram (movedState s dst _ 1) _ hram,
    store_of_ram (movedState s dst _ 1) _ _ hram]
  refine ⟨rfl, fun q => ?_⟩
  rw [← store_of_ram (movedState s dst _ 1) _ _ hram]
  exact load_store (movedState s dst _ 1) _ _ q hram

include hram in
/-- In plain RAM n executions step the registers n times and copy n bytes one after the other (R421-R423). -/
theorem execTimes_blockMove {n : Nat} (hn : n ≤ s.a.toNat + 1) : ∃ m : Memory,
    execTimes (blockMove down dst src) n s = some { movedState s dst (blockDelta down) n with mem := m } ∧
      ∀ q, ({ movedState s dst (blockDelta down) n with mem := m } : State).load q =
        copied s (blockSource s src (blockDelta down)) (blockDest s dst (blockDelta down)) n q := by
  induction n with
  | zero => exact ⟨s.mem, by rw [movedState_zero]; rfl, fun q => by rw [movedState_zero]; rfl⟩
  | succ n ih =>
    obtain ⟨m, hrun, hload⟩ := ih (by omega)
    obtain ⟨m', hexec, hlast⟩ := exec_blockMove_of_ram
      { movedState s dst (blockDelta down) n with mem := m } dst src down hram
    rw [movedState_succ s dst (blockDelta down) n m (by omega)] at hexec hlast
    refine ⟨m', execTimes_succ hrun hexec, fun q => (hlast q).trans ?_⟩
    rw [blockSource_movedState, blockDest_movedState, hload, hload]
    rfl

end

/-! ### What copying byte by byte gives -/

section

variable {s : State} {source dest : Nat → Addr} {n : Nat}

theorem copied_succ_same : copied s source dest (n + 1) (dest n) = copied s source dest n (source n) := if_pos rfl

theorem copied_succ_of_ne {q : Addr} (h : q ≠ dest n) : copied s source dest (n + 1) q = copied s source dest n q :=
  if_neg h

/-- A byte that is no destination stays. -/
theorem copied_of_forall_ne {q : Addr} (h : ∀ j < n, q ≠ dest j) : copied s source dest n q = s.load q := by
  induction n with
  | zero => rfl
  | succ n ih => rw [copied_succ_of_ne (h n n.lt_succ_self), ih fun j hj => h j (hj.trans n.lt_succ_self)]

/-- If no byte is overwritten before it is read, and the same place is written from the same place, then every byte arrives as
it was at the start (R424). -/
theorem copied_intact (hread : ∀ j k, j < k → k < n → source k ≠ dest j)
    (hsame : ∀ j k, dest j = dest k → source j = source k) {j : Nat} (hj : j < n) :
    copied s source dest n (dest j) = s.load (source j) := by
  induction n with
  | zero => cases hj
  | succ n ih =>
    by_cases h : dest j = dest n
    · rw [h, copied_succ_same, hsame j n h]
      exact copied_of_forall_ne fun k hk => hread k n hk n.lt_succ_self
    · have hjn : j < n := Nat.lt_of_le_of_ne (Nat.le_of_lt_succ hj) fun e => h (congrArg dest e)
      rw [copied_succ_of_ne h]
      exact ih (fun j k hjk hk => hread j k hjk (hk.trans n.lt_succ_self)) hjn

/-- If the destination is the source p places on, no place is written twice, and the first p bytes are not overwritten, then
the first p bytes arrive again and again (R424). -/
theorem copied_replicates {p : Nat} (hp : 0 < p) (hshift : ∀ k, source (k + p) = dest k)
    (hdest : ∀ j k, j < k → k < n → dest j ≠ dest k) (hfirst : ∀ j k, k < p → j < n → source k ≠ dest j) {j : Nat}
    (hj : j < n) : copied s source dest n (dest j) = s.load (source (j % p)) := by
  induction n generalizing j with
  | zero => cases hj
  | succ n ih =>
    have ih := fun {j} => @ih (fun j k hjk hk => hdest j k hjk (hk.trans n.lt_succ_self))
      (fun j k hk hj => hfirst j k hk (hj.trans n.lt_succ_self)) j
    obtain hjn | rfl := Nat.lt_succ_iff_lt_or_eq.mp hj
    · rw [copied_succ_of_ne (hdest j n hjn n.lt_succ_self), ih hjn]
    · rw [copied_succ_same]
      obtain hjp | hpj := Nat.lt_or_ge j p
      · rw [Nat.mod_eq_of_lt hjp]
        exact copied_of_forall_ne fun k hk => hfirst k j hjp (hk.trans j.lt_succ_self)
      · have hback : source j = dest (j - p) := by rw [← hshift, Nat.sub_add_cancel hpj]
        rw [hback, ih (by omega), ← Nat.mod_eq_sub_mod hpj]

/-- A move onto itself changes nothing (R424). -/
theorem copied_self (h : ∀ k, source k = dest k) (q : Addr) : copied s source dest n q = s.load q := by
  induction n generalizing q with
  | zero => rfl
  | succ n ih =>
    by_cases hq : q = dest n
    · rw [hq, copied_succ_same, ih, h]
    · rw [copied_succ_of_ne hq, ih]

end

/-! ### Sources and destinations -/

section

variable {s : State} {dst src bank : Byte} {delta : Int} {down : Bool} {j k : Nat}

/-- The same destination has the same source: both wrap at the same width (R166). -/
theorem blockSource_eq_of_blockDest_eq (h : blockDest s dst delta j = blockDest s dst delta k) :
    blockSource s src delta j = blockSource s src delta k := by
  obtain ⟨-, hoffset⟩ := addrOf_inj.mp h
  rw [indexAfter_eq_iff] at hoffset
  refine addrOf_inj.mpr ⟨rfl, (indexAfter_eq_iff _ _ _ _ _ _).mpr ?_⟩
  exact (Int.ModEq.add_left_cancel' _ hoffset).add_left _

theorem blockSource_ne_blockDest (h : dst ≠ src) : blockSource s src delta k ≠ blockDest s dst delta j := by
  intro heq
  obtain ⟨hbank, -⟩ := addrOf_inj.mp heq
  exact h hbank.symm

/-- How far the destination lies ahead of the source, in the direction of the move (R424). -/
def blockAhead (s : State) (delta : Int) : Int := ((atWidth s.p.x s.y : Int) - atWidth s.p.x s.x) * delta

/-- Within one bank the source and destination of two iterations are the same place if they are so mod 2^w (R166, R424). -/
theorem blockSource_eq_blockDest_iff (hroles : s.params.blockRoles = .architecture) :
    blockSource s bank (blockDelta down) k = blockDest s bank (blockDelta down) j ↔
      (2 ^ bitsOf s.p.x : Int) ∣ blockAhead s (blockDelta down) + j - k := by
  rw [blockSource, blockDest, if_pos hroles, if_pos hroles, addrOf_inj, and_iff_right rfl, indexAfter_eq_iff,
    Int.modEq_iff_dvd, blockAhead]
  cases down with
  | false =>
    rw [show blockDelta false = 1 from rfl]
    exact iff_of_eq (congrArg _ (by ring))
  | true =>
    rw [show blockDelta true = -1 from rfl, ← dvd_neg]
    exact iff_of_eq (congrArg _ (by ring))

/-- Closer than 2^w and not the same offset, they are two places. -/
theorem blockSource_ne_blockDest_of_lt (hroles : s.params.blockRoles = .architecture)
    (hne : blockAhead s (blockDelta down) + j - k ≠ 0)
    (hlo : -2 ^ bitsOf s.p.x < blockAhead s (blockDelta down) + j - k)
    (hhi : blockAhead s (blockDelta down) + j - k < 2 ^ bitsOf s.p.x) :
    blockSource s bank (blockDelta down) k ≠ blockDest s bank (blockDelta down) j := fun h =>
  hne (Int.eq_zero_of_abs_lt_dvd ((blockSource_eq_blockDest_iff hroles).mp h) (abs_lt.mpr ⟨hlo, hhi⟩))

end

/-! ### The obligations on block moves -/

/-- Settles O44: a run copies byte by byte, and between two banks nothing is overwritten before it is read. -/
theorem mvnMovesWholeBlockAcrossBanks : Obligations.MvnMovesWholeBlockAcrossBanks := by
  intro s dst src down hram i delta source dest n hn
  obtain ⟨m, hrun, hload⟩ := execTimes_blockMove s dst src down hram hn
  refine ⟨_, hrun, rfl, hload, fun _ hbanks => ⟨fun j hj => ?_, fun q hq => ?_⟩⟩
  · exact (hload _).trans (copied_intact (fun _ _ _ _ => blockSource_ne_blockDest hbanks)
      (fun _ _ => blockSource_eq_of_blockDest_eq) hj)
  · exact (hload q).trans (copied_of_forall_ne hq)

/-- Settles O60: the distance from source to destination, seen in the direction of the move, decides what is overwritten before
it is read. -/
theorem blockMoveOverlapWithinOneBank : Obligations.BlockMoveOverlapWithinOneBank := by
  intro s bank down hram hroles i delta source dest a ahead
  obtain ⟨m, hrun, hload⟩ := execTimes_blockMove s bank bank down hram le_rfl
  have hahead : blockAhead s (blockDelta down) = ahead := rfl
  refine ⟨_, hrun, fun hbehind hfits j hj => ?_, fun p hp hpos hpa hfits j hj => ?_, fun hsame q => ?_⟩
  · refine (hload _).trans (copied_intact (fun j k hjk hk => ?_) (fun _ _ => blockSource_eq_of_blockDest_eq)
      (Nat.lt_succ_of_le hj))
    exact blockSource_ne_blockDest_of_lt hroles (by omega) (by omega) (by omega)
  · have hfits : (p + a : Int) < 2 ^ bitsOf s.p.x := by exact_mod_cast hfits
    have hshift : ∀ k, source (k + p) = dest k := fun k =>
      (blockSource_eq_blockDest_iff hroles).mpr (by rw [hahead, hp]; simp [add_comm])
    refine (hload _).trans (copied_replicates hpos hshift (fun j k hjk hk => ?_) (fun j k hk hj => ?_)
      (Nat.lt_succ_of_le hj))
    · have hne : source (j + p) ≠ dest k := blockSource_ne_blockDest_of_lt hroles (by omega) (by omega) (by omega)
      rwa [hshift] at hne
    · exact blockSource_ne_blockDest_of_lt hroles (by omega) (by omega) (by omega)
  · exact (hload q).trans (copied_self (fun k => (blockSource_eq_blockDest_iff hroles).mpr (by simp [hahead, hsame])) q)

end Sys2Proof.Machine
end

section
/-! PROOFS. Source operands: the length they give an instruction, the width of their value, and updates made with it (R14,
R96, R122, R143). -/

namespace Sys2Proof

open Sys2Proof.Machine

/-- The width flag of a mnemonic's immediates, if it has any (R122). -/
def Mnemonic.immediateNarrow (mn : Mnemonic) (m x : Bool) : Bool :=
  if mn ∈ [Mnemonic.ldx, .ldy, .cpx, .cpy] then x else m

/-- Which immediates follow m and which x is the opcode byte's choice (R115, R122). -/
theorem ofOpcode_immediateNarrow : ∀ (op : Byte) (m x : Bool),
    ((ofOpcode op).tag = .immM → (ofOpcode op).mnemonic.immediateNarrow m x = m) ∧
      ((ofOpcode op).tag = .immX → (ofOpcode op).mnemonic.immediateNarrow m x = x) := by
  decide

theorem immediateNarrow_of_tag (i : Instr) (m x : Bool) :
    (i.tag = .immM → i.mnemonic.immediateNarrow m x = m) ∧ (i.tag = .immX → i.mnemonic.immediateNarrow m x = x) := by
  rw [← tag_ofOpcode, ← mnemonic_ofOpcode]
  exact ofOpcode_immediateNarrow i.opcode m x

/-- The instruction length is that of its source operand, an immediate at its mnemonic's width (R113, R122, R123). -/
theorem length_of_sourceOperand {i : Instr} {o : Operand} (h : i.sourceOperand = some o) (m x : Bool) :
    o.length (Width.ofFlag (i.mnemonic.immediateNarrow m x)) = i.length m x := by
  obtain ⟨hm, hx⟩ := immediateNarrow_of_tag i m x
  unfold Instr.sourceOperand at h
  split at h
  case h_1 htag _ =>
    cases h
    rw [Instr.length, hm htag, htag]
    cases m <;> rfl
  case h_2 htag _ =>
    cases h
    rw [Instr.length, hx htag, htag]
    cases x <;> rfl
  case h_3 =>
    obtain ⟨o, ho, rfl⟩ := Option.map_eq_some_iff.mp h
    exact length_of_memOperandOf ho m x

end Sys2Proof

namespace Sys2Proof.Machine

open Sys2Proof.Claims

/-- n and z of any value, taken at a width (R10, R41). -/
theorem setNZ_ofFlag (s : State) (narrow : Bool) (v : Word) :
    s.setNZ (Width.ofFlag narrow) v = { s with p := nzOf s.p narrow (atWidth narrow v) } := by
  have hz : (Width.ofFlag narrow).trunc v = 0 ↔ atWidth narrow v = 0 := by
    rw [← BitVec.toNat_inj, trunc_ofFlag_toNat]; rfl
  rw [State.setNZ, sign_eq, bits_ofFlag, decide_eq_decide.mpr hz]
  rfl

/-- An operand's value at a width is below 2^w (R9, R14, R143). -/
theorem operandValue_lt (narrow : Bool) (op : Byte) (s : State) (o : Operand) :
    (operandValue narrow op s o).toNat < 2 ^ bitsOf narrow := by
  rw [← operand_read_eq]
  cases o with
  | imm v => exact (trunc_ofFlag_toNat narrow v).trans_lt (atWidth_lt narrow v)
  | mem o => exact readAt_toNat_lt _ narrow _

theorem atWidth_of_lt {narrow : Bool} {v : Word} (h : v.toNat < 2 ^ bitsOf narrow) : atWidth narrow v = v.toNat :=
  Nat.mod_eq_of_lt h

/-- The next state of an instruction that reads its operand and then updates registers and flags with the value: the reads
are apart from the update, which leaves memory and its history alone (R96). -/
theorem readsOperand_of_update {i : Instr} {s : State} {narrow : Bool} {o : Operand} {f : Word → State}
    (update : Word → State → State) (ho : i.sourceOperand = some o)
    (hexec : exec i s = .next (update (o.read (Width.ofFlag narrow) i.opcode s)
      (o.afterRead (Width.ofFlag narrow) i.opcode s)))
    (hmem : ∀ v u m b, update v { u with mem := m, bus := b } = { update v u with mem := m, bus := b })
    (hpar : ∀ v u, (update v u).params = u.params)
    (hf : ∀ v : Word, v.toNat < 2 ^ bitsOf narrow → update v s = f v) : ReadsOperand i s narrow f := by
  refine ⟨o, ho, ?_⟩
  rw [hexec, operand_read_eq, operand_afterRead_eq, ← hf _ (operandValue_lt narrow i.opcode s o),
    performed_update s _ (hmem _ s) (hpar _ s)]

end Sys2Proof.Machine
end

section
/-! PROOFS. LDA, LDX and LDY (R192-R194). -/

namespace Sys2Proof.Machine

open Sys2Proof.Claims

/-- The meaning of a load by its mnemonic. -/
def loadOp : Mnemonic → Byte → Operand → State → State
  | .ldx => ldxOp
  | .ldy => ldyOp
  | _ => ldaOp

/-- Every load has a source operand, and its meaning is that of its mnemonic with it. -/
theorem exec_load {i : Instr} {mn : Mnemonic} (s : State) (hmn : i.mnemonic = mn) (h : mn ∈ [Mnemonic.lda, .ldx, .ldy]) :
    ∃ o, i.sourceOperand = some o ∧ exec i s = .next (loadOp mn i.opcode o s) := by
  subst hmn
  cases i with dsimp only [Instr.mnemonic, Instr.row] at h
  | ldaImm | ldaDp | ldaDpX | ldaDpInd | ldaDpIndL | ldaDpXInd | ldaDpIndY | ldaDpIndLY | ldaAbs | ldaAbsX | ldaAbsY
  | ldaLong | ldaLongX | ldaSr | ldaSrIndY | ldxImm | ldxDp | ldxDpY | ldxAbs | ldxAbsY | ldyImm | ldyDp | ldyDpX
  | ldyAbs | ldyAbsX => exact ⟨_, rfl, rfl⟩
  | _ => exact absurd h (by decide)

/-- A write of a register at a width: flags, PC, memory, its history and the parameters stay and do not meet it. -/
structure WritesRegister (set : State → Width → Word → State) : Prop where
  memory : ∀ s w v m b, set { s with mem := m, bus := b } w v = { set s w v with mem := m, bus := b }
  params : ∀ s w v, (set s w v).params = s.params
  p : ∀ s w v, (set s w v).p = s.p
  pc : ∀ s w v, (set s w v).pc = s.pc

theorem setA_writesRegister : WritesRegister State.setA := ⟨fun _ _ _ _ _ => rfl, setA_params, setA_p, setA_pc⟩

theorem setX_writesRegister : WritesRegister State.setX := ⟨fun _ _ _ _ _ => rfl, setX_params, setX_p, setX_pc⟩

theorem setY_writesRegister : WritesRegister State.setY := ⟨fun _ _ _ _ _ => rfl, setY_params, setY_p, setY_pc⟩

/-- A load into the register that `set` writes: the operand is read, the register takes it, n, z, PC follow (R192-R194). -/
def loadWith (set : State → Width → Word → State) (narrow : Bool) (op : Byte) (o : Operand) (s : State) : State :=
  let w := Width.ofFlag narrow
  let v := o.read w op s
  ((set (o.afterRead w op s) w v).setNZ w v).advance (o.length w)

theorem readsOperand_of_loadWith {i : Instr} {s : State} {narrow : Bool} {o : Operand}
    {set : State → Width → Word → State} (hset : WritesRegister set) (ho : i.sourceOperand = some o)
    (hnarrow : i.mnemonic.immediateNarrow s.p.m s.p.x = narrow)
    (hexec : exec i s = .next (loadWith set narrow i.opcode o s)) :
    ReadsOperand i s narrow fun v =>
      { set s (Width.ofFlag narrow) v with p := nzOf s.p narrow v.toNat, pc := pcAfter i s } := by
  have hlen : o.length (Width.ofFlag narrow) = i.length s.p.m s.p.x := hnarrow ▸ length_of_sourceOperand ho _ _
  refine readsOperand_of_update (fun v u =>
      ((set u (Width.ofFlag narrow) v).setNZ (Width.ofFlag narrow) v).advance (o.length (Width.ofFlag narrow)))
    ho hexec (fun v u m b => by rw [hset.memory]; rfl) (fun v u => hset.params u _ v) fun v hv => ?_
  rw [setNZ_ofFlag, atWidth_of_lt hv, hset.p, hlen, pcAfter, ← hset.pc s (Width.ofFlag narrow) v]
  rfl

/-- Settles O12: each load writes its register at the width, and n, z and PC follow. -/
theorem loadsWriteRegisterAndNZ : Obligations.LoadsWriteRegisterAndNZ := by
  intro i s
  simp only [← merge_ofFlag]
  refine ⟨fun h => ?_, fun h => ?_, fun h => ?_⟩
  · obtain ⟨o, ho, hexec⟩ := exec_load s h (by decide)
    exact readsOperand_of_loadWith setA_writesRegister ho (h ▸ rfl) hexec
  · obtain ⟨o, ho, hexec⟩ := exec_load s h (by decide)
    exact readsOperand_of_loadWith setX_writesRegister ho (h ▸ rfl) hexec
  · obtain ⟨o, ho, hexec⟩ := exec_load s h (by decide)
    exact readsOperand_of_loadWith setY_writesRegister ho (h ▸ rfl) hexec

end Sys2Proof.Machine
end

section
/-! PROOFS. STA, STX, STY and STZ (R195-R198). -/

namespace Sys2Proof.Machine

open Sys2Proof.Claims

/-- The meaning of a store by its mnemonic. -/
def storeOp : Mnemonic → Byte → MemOperand → State → State
  | .stx => stxOp
  | .sty => styOp
  | .stz => stzOp
  | _ => staOp

/-- Every store has a memory operand, and its meaning is that of its mnemonic with it. -/
theorem exec_store {i : Instr} {mn : Mnemonic} (s : State) (hmn : i.mnemonic = mn)
    (h : mn ∈ [Mnemonic.sta, .stx, .sty, .stz]) :
    ∃ o, i.memOperand = some o ∧ exec i s = .next (storeOp mn i.opcode o s) := by
  subst hmn
  cases i with dsimp only [Instr.mnemonic, Instr.row] at h
  | staDp | staDpX | staDpInd | staDpIndL | staDpXInd | staDpIndY | staDpIndLY | staAbs | staAbsX | staAbsY | staLong
  | staLongX | staSr | staSrIndY | stxDp | stxDpY | stxAbs | styDp | styDpX | styAbs | stzDp | stzDpX | stzAbs
  | stzAbsX => exact ⟨_, rfl, rfl⟩
  | _ => exact absurd h (by decide)

/-- A write at a width takes of the value only what the width keeps (R9, R85). -/
theorem writeAt_trunc (s : State) (w : Width) (ea : Ea) (v : Word) : s.writeAt w ea (w.trunc v) = s.writeAt w ea v := by
  cases w
  · simp [State.writeAt, Width.trunc]
  · rfl

/-- A store: the mode is resolved, the value goes to the address so found, and PC follows; no flag changes (R85, R96). -/
theorem writesOperand_of_store {i : Instr} {s : State} {narrow : Bool} {o : MemOperand} {v : Word}
    (ho : i.memOperand = some o)
    (hexec : exec i s = .next (((o.resolved i.opcode s).writeAt (Width.ofFlag narrow) (o.ea i.opcode s)
      ((Width.ofFlag narrow).trunc v)).advance o.length)) :
    WritesOperand i s narrow false fun _ => (v, s.p) := by
  refine ⟨o, ho, ?_⟩
  intro ea r before t
  have hresolved : s.params.memory = .ram → o.resolved i.opcode s = s := noteReads_of_ram s _
  have ht : t = { (o.resolved i.opcode s).writeAt (Width.ofFlag narrow) ea v with pc := pcAfter i s } := by
    rw [resolved_eq_performed, writeAt_ofFlag, ← performed_append]
    exact performed_update s (fun u => { u with pc := pcAfter i s }) (fun _ _ => rfl) rfl _
  constructor
  · rw [hexec, writeAt_trunc, ht, State.advance, length_of_memOperand ho s.p.m s.p.x, writeAt_pc, MemOperand.resolved,
      noteReads_pc]
    rfl
  · intro hram
    rw [ht, hresolved hram]
    exact writeAt_storesAt s narrow ea v hram (ea_hi_ne_lo s o i.opcode)

/-- Settles O13: each store writes its register or zero at the width to the operand's address. -/
theorem storesWriteOnlyTheirOperand : Obligations.StoresWriteOnlyTheirOperand := by
  intro i s
  refine ⟨fun h => ?_, fun h => ?_, fun h => ?_, fun h => ?_⟩
  · obtain ⟨o, ho, hexec⟩ := exec_store s h (by decide)
    exact writesOperand_of_store ho hexec
  · obtain ⟨o, ho, hexec⟩ := exec_store s h (by decide)
    exact writesOperand_of_store ho hexec
  · obtain ⟨o, ho, hexec⟩ := exec_store s h (by decide)
    exact writesOperand_of_store ho hexec
  · obtain ⟨o, ho, hexec⟩ := exec_store s h (by decide)
    exact writesOperand_of_store ho (by rw [writeAt_trunc]; exact hexec)

end Sys2Proof.Machine
end

section
/-! PROOFS. The transfers between registers and XBA (R199-R211). -/

namespace Sys2Proof.Machine

open Sys2Proof.Claims

/-! ### Values at a width -/

theorem atWidth_merge (narrow : Bool) (old v : Word) :
    atWidth narrow ((Width.ofFlag narrow).merge old v) = atWidth narrow v := by
  rw [merge_ofFlag, atWidth_putAt]

theorem atWidth_trunc (narrow : Bool) (v : Word) : atWidth narrow ((Width.ofFlag narrow).trunc v) = atWidth narrow v := by
  rw [atWidth, trunc_ofFlag_toNat]
  exact Nat.mod_mod _ _

theorem atWidth_false (v : Word) : atWidth false v = v.toNat := atWidth_of_lt v.isLt

theorem atWidth_true (v : Word) : atWidth true v = (loByte v).toNat := (loByte_toNat v).symm

/-! ### The transfers -/

/-- The end of a transfer: n and z of the value at a width, and PC past the one byte of the instruction (R10, R38). -/
theorem setNZ_advance_one (t : State) {narrow : Bool} {v : Word} {n : Nat} (h : atWidth narrow v = n) :
    (t.setNZ (Width.ofFlag narrow) v).advance 1 = { t with p := nzOf t.p narrow n, pc := t.pc + 1 } := by
  rw [setNZ_ofFlag, h]
  rfl

/-- Settles O14: the register is written at its width, and n and z are those of the source at that width. -/
theorem widthTransfersCopyAndSetNZ : Obligations.WidthTransfersCopyAndSetNZ := by
  refine ⟨rfl, fun s => ?_⟩
  simp only [← merge_ofFlag]
  have htoA : ∀ v, atWidth s.p.m ((s.setA s.wA v).getA s.wA) = atWidth s.p.m v := fun v =>
    (atWidth_trunc _ _).trans (atWidth_merge _ _ v)
  exact ⟨congrArg _ (setNZ_advance_one (s.setX s.wX s.a) (atWidth_merge _ _ _)),
    congrArg _ (setNZ_advance_one (s.setY s.wX s.a) (atWidth_merge _ _ _)),
    congrArg _ (setNZ_advance_one (s.setA s.wA s.x) (htoA _)),
    congrArg _ (setNZ_advance_one (s.setA s.wA s.y) (htoA _)),
    congrArg _ (setNZ_advance_one (s.setY s.wX s.x) (atWidth_merge _ _ _)),
    congrArg _ (setNZ_advance_one (s.setX s.wX s.y) (atWidth_merge _ _ _)),
    congrArg _ (setNZ_advance_one (s.setX s.wX s.sp) (atWidth_merge _ _ _))⟩

/-- Settles O15: SP is pinned by its one writer, 16-bit moves set n, z from the whole word, XBA from the new low byte. -/
theorem fullWidthTransfersAndXba : Obligations.FullWidthTransfersAndXba := by
  refine ⟨rfl, fun s => ?_⟩
  have hxba : atWidth true (wordOf (loByte s.a) (hiByte s.a)) = (hiByte s.a).toNat := by
    rw [atWidth_true, loByte_wordOf]
  exact ⟨rfl, rfl, congrArg _ (setNZ_advance_one (s.setA .w16 s.sp) (atWidth_false _)),
    congrArg _ (setNZ_advance_one { s with d := s.a } (atWidth_false _)),
    congrArg _ (setNZ_advance_one (s.setA .w16 s.d) (atWidth_false _)),
    congrArg _ (setNZ_advance_one (s.setA .w16 (wordOf (loByte s.a) (hiByte s.a))) hxba)⟩

end Sys2Proof.Machine
end

section
/-! PROOFS. The decimal adders as chains of one nibble step (R243, R245): their nibbles and carries on any digits, and their value
on valid digits. -/

namespace Sys2Proof.Machine

open Sys2Proof.Claims

/-! ### A chain of nibble steps -/

/-- The results of a nibble step run over k nibbles from the least significant, and the carry or borrow out. A step takes two
nibbles and the carry in, and gives a nibble and the carry out. -/
def nibbleChain (step : Nat → Nat → Nat → Nat × Nat) : Nat → Nat → Nat → Nat → Nat × Nat
  | 0, _, _, c => (0, c)
  | k + 1, a, b, c =>
    let r := step (a % 16) (b % 16) c
    let high := nibbleChain step k (a / 16) (b / 16) r.2
    (r.1 + 16 * high.1, high.2)

/-- The carry into nibble k of a chain. -/
def chainCarry (step : Nat → Nat → Nat → Nat × Nat) (a b c : Nat) : Nat → Nat
  | 0 => c
  | k + 1 => (step (a / 16 ^ k % 16) (b / 16 ^ k % 16) (chainCarry step a b c k)).2

/-- Nibble k of a chain. -/
def chainNibble (step : Nat → Nat → Nat → Nat × Nat) (a b c k : Nat) : Nat :=
  (step (a / 16 ^ k % 16) (b / 16 ^ k % 16) (chainCarry step a b c k)).1

/-- What a decimal step keeps: nibbles and carries stay what they are, digits stay digits, and on digits the step is exact
arithmetic, where σ is 1 for a sum and -1 for a difference. -/
structure IsDecimalStep (σ : Int) (step : Nat → Nat → Nat → Nat × Nat) : Prop where
  carry_le : ∀ x y c, (step x y c).2 ≤ 1
  nibble_lt : ∀ {x y c}, x < 16 → y < 16 → c ≤ 1 → (step x y c).1 < 16
  digit_lt : ∀ {x y c}, x < 10 → y < 10 → c ≤ 1 → (step x y c).1 < 10
  value_eq : ∀ {x y c : Nat}, x < 10 → y < 10 → c ≤ 1 →
    (x : Int) + σ * (y + c) = (step x y c).1 + σ * (10 * (step x y c).2)

section

variable {σ : Int} {step : Nat → Nat → Nat → Nat × Nat}

theorem add_mul_mod_div {x : Nat} (h : x < 16) (y : Nat) : (x + 16 * y) % 16 = x ∧ (x + 16 * y) / 16 = y := by
  omega

theorem div_pow_succ (v k : Nat) : v / 16 ^ (k + 1) = v / 16 / 16 ^ k := by
  rw [Nat.div_div_eq_div_mul, pow_succ']

/-- The carries of the higher nibbles are those of the chain over them. -/
theorem chainCarry_succ (a b c k : Nat) :
    chainCarry step a b c (k + 1) = chainCarry step (a / 16) (b / 16) (step (a % 16) (b % 16) c).2 k := by
  induction k with
  | zero => simp [chainCarry]
  | succ k ih => rw [chainCarry, ih, div_pow_succ, div_pow_succ]; rfl

theorem chainNibble_succ (a b c k : Nat) :
    chainNibble step a b c (k + 1) = chainNibble step (a / 16) (b / 16) (step (a % 16) (b % 16) c).2 k := by
  rw [chainNibble, chainCarry_succ, div_pow_succ, div_pow_succ]; rfl

theorem nibbleChain_carry (k a b c : Nat) : (nibbleChain step k a b c).2 = chainCarry step a b c k := by
  induction k generalizing a b c with
  | zero => rfl
  | succ k ih => rw [chainCarry_succ, ← ih]; rfl

variable (hstep : IsDecimalStep σ step)

include hstep in
theorem nibbleChain_carry_le {c : Nat} (hc : c ≤ 1) (k a b : Nat) : (nibbleChain step k a b c).2 ≤ 1 := by
  rw [nibbleChain_carry]
  cases k with
  | zero => exact hc
  | succ k => exact hstep.carry_le _ _ _

include hstep in
theorem nibbleChain_lt {c : Nat} (hc : c ≤ 1) (k a b : Nat) : (nibbleChain step k a b c).1 < 16 ^ k := by
  induction k generalizing a b c with
  | zero => exact Nat.one_pos
  | succ k ih =>
    have hlow := hstep.nibble_lt (Nat.mod_lt a (by decide)) (Nat.mod_lt b (by decide)) hc
    have hhigh := ih (hstep.carry_le (a % 16) (b % 16) c) (a / 16) (b / 16)
    rw [nibbleChain, pow_succ]
    omega

include hstep in
/-- Nibble j of the result is the step on the nibbles at j; above the chain the result is zero. -/
theorem nibbleChain_nibble {c : Nat} (hc : c ≤ 1) (k a b j : Nat) :
    (nibbleChain step k a b c).1 / 16 ^ j % 16 = if j < k then chainNibble step a b c j else 0 := by
  induction k generalizing a b c j with
  | zero => simp [nibbleChain]
  | succ k ih =>
    have hlow := hstep.nibble_lt (Nat.mod_lt a (by decide)) (Nat.mod_lt b (by decide)) hc
    obtain ⟨hmod, hdiv⟩ := add_mul_mod_div hlow
      (nibbleChain step k (a / 16) (b / 16) (step (a % 16) (b % 16) c).2).1
    rw [nibbleChain]
    cases j with
    | zero => simp [chainNibble, chainCarry, hmod]
    | succ j => rw [div_pow_succ, hdiv, ih (hstep.carry_le _ _ _), ← chainNibble_succ]; simp

/-! ### Valid digits -/

theorem isBcd_succ (k v : Nat) : isBcd (k + 1) v = true ↔ v % 16 < 10 ∧ isBcd k (v / 16) = true := by
  rw [isBcd, Bool.and_eq_true, decide_eq_true_iff]

theorem bcdValue_lt {k v : Nat} (h : isBcd k v = true) : bcdValue k v < 10 ^ k := by
  induction k generalizing v with
  | zero => exact Nat.one_pos
  | succ k ih =>
    obtain ⟨hlow, hhigh⟩ := (isBcd_succ k v).mp h
    have := ih hhigh
    rw [bcdValue, pow_succ]
    omega

include hstep in
/-- On digits a chain gives digits, and its value and carry are the exact sum or difference. -/
theorem nibbleChain_exact {k a b c : Nat} (ha : isBcd k a = true) (hb : isBcd k b = true) (hc : c ≤ 1) :
    isBcd k (nibbleChain step k a b c).1 = true ∧
      (bcdValue k a : Int) + σ * (bcdValue k b + c) =
        bcdValue k (nibbleChain step k a b c).1 + σ * (10 ^ k * (nibbleChain step k a b c).2) := by
  induction k generalizing a b c with
  | zero => simp [isBcd, bcdValue, nibbleChain]
  | succ k ih =>
    obtain ⟨halow, hahigh⟩ := (isBcd_succ k a).mp ha
    obtain ⟨hblow, hbhigh⟩ := (isBcd_succ k b).mp hb
    have hdigit := hstep.digit_lt halow hblow hc
    have hlow := hstep.value_eq halow hblow hc
    obtain ⟨hbcd, hhigh⟩ := ih hahigh hbhigh (hstep.carry_le (a % 16) (b % 16) c)
    obtain ⟨hmod, hdiv⟩ := add_mul_mod_div (hdigit.trans (by decide))
      (nibbleChain step k (a / 16) (b / 16) (step (a % 16) (b % 16) c).2).1
    simp only [isBcd_succ, bcdValue, nibbleChain, hmod, hdiv]
    refine ⟨⟨hdigit, hbcd⟩, ?_⟩
    push_cast at hlow ⊢
    linear_combination hlow + 10 * hhigh

include hstep in
/-- On digits the value of a chain is the sum or difference mod 10^k. -/
theorem bcdValue_nibbleChain {k a b c : Nat} (ha : isBcd k a = true) (hb : isBcd k b = true) (hc : c ≤ 1) :
    (bcdValue k (nibbleChain step k a b c).1 : Int) = ((bcdValue k a : Int) + σ * (bcdValue k b + c)) % 10 ^ k := by
  obtain ⟨hbcd, hexact⟩ := nibbleChain_exact hstep ha hb hc
  have hlt : (bcdValue k (nibbleChain step k a b c).1 : Int) < 10 ^ k := by exact_mod_cast bcdValue_lt hbcd
  rw [hexact, mul_left_comm, Int.add_mul_emod_self_left, Int.emod_eq_of_lt (Int.natCast_nonneg _) hlt]

end

/-! ### The two steps -/

/-- One nibble of `DecAdd` (R243). -/
def addStep (x y c : Nat) : Nat × Nat :=
  (if 10 ≤ x + y + c then (x + y + c - 10) % 16 else x + y + c, if 10 ≤ x + y + c then 1 else 0)

/-- One nibble of `DecSub` (R245). -/
def subStep (x y c : Nat) : Nat × Nat :=
  let t : Int := (x : Int) - y - c
  (if t < 0 then ((t + 10) % 16).toNat else t.toNat, if t < 0 then 1 else 0)

/-- Whether the nibbles' sum reaches 10 is the one case split; the rest is linear arithmetic. -/
theorem addStep_isDecimalStep : IsDecimalStep 1 addStep := by
  constructor <;> intros <;> simp only [addStep] <;> split <;> omega

/-- Whether the nibbles' difference is negative is the one case split; the rest is linear arithmetic. -/
theorem subStep_isDecimalStep : IsDecimalStep (-1) subStep := by
  constructor <;> intros <;> simp only [subStep] <;> split <;> omega

theorem decAddDigits_eq (k a b c : Nat) : decAddDigits k a b c = nibbleChain addStep k a b c := by
  induction k generalizing a b c with
  | zero => rfl
  | succ k ih => rw [decAddDigits, nibbleChain, ih]; rfl

theorem decSubDigits_eq (k a b c : Nat) : decSubDigits k a b c = nibbleChain subStep k a b c := by
  induction k generalizing a b c with
  | zero => rfl
  | succ k ih => rw [decSubDigits, nibbleChain, ih]; rfl

section

variable {k a b c : Nat} (ha : isBcd k a = true) (hb : isBcd k b = true) (hc : c ≤ 1)

include ha hb hc

/-- On digits a sum carries out if and only if it reaches 10^k (R243). -/
theorem nibbleChain_addStep_carry_iff : (nibbleChain addStep k a b c).2 = 1 ↔ 10 ^ k ≤ bcdValue k a + bcdValue k b + c := by
  obtain ⟨hbcd, hexact⟩ := nibbleChain_exact addStep_isDecimalStep ha hb hc
  have hlt := bcdValue_lt hbcd
  have hcarry := nibbleChain_carry_le addStep_isDecimalStep hc k a b
  zify at hlt ⊢
  interval_cases (nibbleChain addStep k a b c).2 <;> omega

/-- On digits a difference borrows nothing if and only if it is not negative (R245). -/
theorem nibbleChain_subStep_carry_iff : (nibbleChain subStep k a b c).2 = 0 ↔ bcdValue k b + c ≤ bcdValue k a := by
  obtain ⟨hbcd, hexact⟩ := nibbleChain_exact subStep_isDecimalStep ha hb hc
  have hlt := bcdValue_lt hbcd
  have hcarry := nibbleChain_carry_le subStep_isDecimalStep hc k a b
  zify at hlt ⊢
  interval_cases (nibbleChain subStep k a b c).2 <;> omega

end

section

variable (a b c k : Nat)

theorem addCarry_eq : addCarry a b c k = chainCarry addStep a b c k := by
  induction k with
  | zero => rfl
  | succ k ih => rw [addCarry, ih]; rfl

theorem addNibble_eq : addNibble a b c k = chainNibble addStep a b c k := by
  rw [addNibble, addCarry_eq]; rfl

theorem subStep_borrow (x y : Nat) : (subStep x y c).2 = if x < y + c then 1 else 0 := by
  simp only [subStep]
  congr 1
  rw [eq_iff_iff]
  omega

theorem subBorrow_eq : subBorrow a b c k = chainCarry subStep a b c k := by
  induction k with
  | zero => rfl
  | succ k ih => rw [subBorrow, ih, chainCarry, subStep_borrow]

theorem subNibble_eq : subNibble a b c k = chainNibble subStep a b c k := by
  rw [subNibble, subBorrow_eq, chainNibble, subStep]
  simp only
  split <;> omega

end

/-! ### The adders -/

section

variable (narrow : Bool) (a b : Word) (c : Bool)

theorem ofNat_nibbleChain_toNat {σ : Int} {step : Nat → Nat → Nat → Nat × Nat} (hstep : IsDecimalStep σ step) {c : Nat}
    (hc : c ≤ 1) (a b : Nat) :
    (BitVec.ofNat 16 (nibbleChain step (bitsOf narrow / 4) a b c).1).toNat =
      (nibbleChain step (bitsOf narrow / 4) a b c).1 := by
  have hle : 16 ^ (bitsOf narrow / 4) ≤ 2 ^ 16 := by cases narrow <;> decide
  exact Nat.mod_eq_of_lt ((nibbleChain_lt hstep hc _ a b).trans_le hle)

theorem decAdd_toNat :
    (decAdd (Width.ofFlag narrow) a b c).1.toNat =
      (nibbleChain addStep (bitsOf narrow / 4) a.toNat b.toNat c.toNat).1 := by
  rw [decAdd, bits_ofFlag, decAddDigits_eq]
  exact ofNat_nibbleChain_toNat narrow addStep_isDecimalStep c.toNat_le _ _

theorem decAdd_carry :
    (decAdd (Width.ofFlag narrow) a b c).2 =
      decide ((nibbleChain addStep (bitsOf narrow / 4) a.toNat b.toNat c.toNat).2 = 1) := by
  rw [decAdd, bits_ofFlag, decAddDigits_eq]

theorem decSub_toNat :
    (decSub (Width.ofFlag narrow) a b c).1.toNat =
      (nibbleChain subStep (bitsOf narrow / 4) a.toNat b.toNat (1 - c.toNat)).1 := by
  rw [decSub, bits_ofFlag, decSubDigits_eq]
  exact ofNat_nibbleChain_toNat narrow subStep_isDecimalStep (Nat.sub_le _ _) _ _

theorem decSub_carry :
    (decSub (Width.ofFlag narrow) a b c).2 =
      decide ((nibbleChain subStep (bitsOf narrow / 4) a.toNat b.toNat (1 - c.toNat)).2 = 0) := by
  rw [decSub, bits_ofFlag, decSubDigits_eq]

/-- A decimal result stays below 2^w (R243). -/
theorem decAdd_lt : (decAdd (Width.ofFlag narrow) a b c).1.toNat < 2 ^ bitsOf narrow := by
  have hlt := nibbleChain_lt addStep_isDecimalStep c.toNat_le (bitsOf narrow / 4) a.toNat b.toNat
  rw [decAdd_toNat]
  cases narrow <;> exact hlt

/-- A decimal result stays below 2^w (R245). -/
theorem decSub_lt : (decSub (Width.ofFlag narrow) a b c).1.toNat < 2 ^ bitsOf narrow := by
  have hlt := nibbleChain_lt subStep_isDecimalStep (Nat.sub_le 1 c.toNat) (bitsOf narrow / 4) a.toNat b.toNat
  rw [decSub_toNat]
  cases narrow <;> exact hlt

end

/-- Settles O18: both adders are chains of one nibble step, exact on digits, so on digits the chain is exact. -/
theorem decimalAddersAreDecimalArithmetic : Obligations.DecimalAddersAreDecimalArithmetic := by
  intro narrow a b c k w va vb carry borrow
  have hadd := addStep_isDecimalStep
  have hsub := subStep_isDecimalStep
  have hc : c.toNat ≤ 1 := c.toNat_le
  have hborrow : 1 - c.toNat ≤ 1 := Nat.sub_le _ _
  simp only [w, decAdd_toNat, decSub_toNat, decAdd_carry, decSub_carry]
  refine ⟨⟨fun j => ?_, ?_, fun j => ?_, ?_⟩, fun ha hb => ?_⟩
  · rw [nibbleChain_nibble hadd hc, addNibble_eq]
  · rw [nibbleChain_carry, ← addCarry_eq]
  · rw [nibbleChain_nibble hsub hborrow, subNibble_eq, Nat.cast_ite, Nat.cast_zero]
  · rw [nibbleChain_carry, ← subBorrow_eq]
  · obtain ⟨hsumBcd, -⟩ := nibbleChain_exact hadd ha hb hc
    obtain ⟨hdiffBcd, -⟩ := nibbleChain_exact hsub ha hb hborrow
    have hsum := bcdValue_nibbleChain hadd ha hb hc
    have hdiff := bcdValue_nibbleChain hsub ha hb hborrow
    refine ⟨hsumBcd, ?_, decide_eq_decide.mpr (nibbleChain_addStep_carry_iff ha hb hc), hdiffBcd, ?_,
      decide_eq_decide.mpr (nibbleChain_subStep_carry_iff ha hb hborrow)⟩
    · zify
      rw [hsum, one_mul, add_assoc]
    · rw [hdiff, Nat.cast_sub hc]
      congr 1
      push_cast
      ring

end Sys2Proof.Machine
end

section
/-! PROOFS. Arithmetic, logic and comparisons with a source operand (R246-R254): the results at a width, and the instructions that
read an operand and then update flags and the accumulator with it. -/

namespace Sys2Proof

open Sys2Proof.Machine

/-- The opcode of an instruction is one of those that the opcode map gives its mnemonic (R115). -/
theorem opcode_mem_of_mnemonic {i : Instr} {mn : Mnemonic} {l : List Byte} (h : i.mnemonic = mn)
    (hl : ∀ op : Byte, (ofOpcode op).mnemonic = mn → op ∈ l) : i.opcode ∈ l :=
  hl i.opcode ((mnemonic_ofOpcode i).trans h)

/-! ### Bitwise operations at a width -/

section

variable (w : Width) (a b : Word)

theorem trunc_and : w.trunc (a &&& b) = w.trunc a &&& w.trunc b :=
  BitVec.eq_of_toNat_eq (by simp [trunc_toNat, Nat.and_mod_two_pow])

theorem trunc_or : w.trunc (a ||| b) = w.trunc a ||| w.trunc b :=
  BitVec.eq_of_toNat_eq (by simp [trunc_toNat, Nat.or_mod_two_pow])

theorem trunc_xor : w.trunc (a ^^^ b) = w.trunc a ^^^ w.trunc b :=
  BitVec.eq_of_toNat_eq (by simp [trunc_toNat, Nat.xor_mod_two_pow])

/-- A complement at a width takes of the value only what the width keeps. -/
theorem trunc_not_trunc : w.trunc (~~~w.trunc a) = w.trunc (~~~a) := by
  apply BitVec.eq_of_toNat_eq
  rw [trunc_toNat, trunc_toNat, BitVec.toNat_not, BitVec.toNat_not, trunc_toNat]
  cases w <;> simp only [Width.bits] <;> omega

end

end Sys2Proof

namespace Sys2Proof.Machine

open Sys2Proof.Claims

section

variable (narrow : Bool)

theorem ofNat_atWidth (v : Word) : BitVec.ofNat 16 (atWidth narrow v) = (Width.ofFlag narrow).trunc v := by
  rw [← trunc_ofFlag_toNat, BitVec.ofNat_toNat, BitVec.setWidth_eq]

theorem trunc_ofFlag_toNat_lt (v : Word) : ((Width.ofFlag narrow).trunc v).toNat < 2 ^ bitsOf narrow :=
  (trunc_ofFlag_toNat narrow v).trans_lt (atWidth_lt narrow v)

variable {narrow}

theorem atWidth_congr {v w : Word} (h : (Width.ofFlag narrow).trunc v = (Width.ofFlag narrow).trunc w) :
    atWidth narrow v = atWidth narrow w := by
  rw [← trunc_ofFlag_toNat, h, trunc_ofFlag_toNat]

theorem trunc_of_lt {v : Word} (h : v.toNat < 2 ^ bitsOf narrow) : (Width.ofFlag narrow).trunc v = v :=
  BitVec.eq_of_toNat_eq ((trunc_ofFlag_toNat narrow v).trans (atWidth_of_lt h))

/-- The zero test of BIT, TSB and TRB, on the accumulator at the operand's width (R254-R256). -/
theorem trunc_and_eq_zero_iff {a v : Word} (hv : v.toNat < 2 ^ bitsOf narrow) :
    (Width.ofFlag narrow).trunc a &&& v = 0 ↔ atWidth narrow (a &&& v) = 0 := by
  rw [← trunc_ofFlag_toNat, trunc_and, trunc_of_lt hv, ← BitVec.toNat_inj]
  rfl

end

/-! ### Instructions with a source operand -/

/-- The meaning of an arithmetic, logic or compare instruction by its mnemonic. -/
def aluOp : Mnemonic → Byte → Operand → State → State
  | .adc => adcOp
  | .sbc => sbcOp
  | .cmp => cmpOp
  | .cpx => cpxOp
  | .cpy => cpyOp
  | .and => andOp
  | .ora => oraOp
  | _ => eorOp

/-- Each of them has a source operand, and its meaning is that of its mnemonic with it. -/
theorem exec_alu {i : Instr} {mn : Mnemonic} (s : State) (hmn : i.mnemonic = mn)
    (h : mn ∈ [Mnemonic.adc, .sbc, .cmp, .cpx, .cpy, .and, .ora, .eor]) :
    ∃ o, i.sourceOperand = some o ∧ exec i s = .next (aluOp mn i.opcode o s) := by
  subst hmn
  cases i with dsimp only [Instr.mnemonic, Instr.row] at h
  | adcImm | adcDp | adcDpX | adcDpInd | adcDpIndL | adcDpXInd | adcDpIndY | adcDpIndLY | adcAbs | adcAbsX | adcAbsY
  | adcLong | adcLongX | adcSr | adcSrIndY
  | sbcImm | sbcDp | sbcDpX | sbcDpInd | sbcDpIndL | sbcDpXInd | sbcDpIndY | sbcDpIndLY | sbcAbs | sbcAbsX | sbcAbsY
  | sbcLong | sbcLongX | sbcSr | sbcSrIndY
  | cmpImm | cmpDp | cmpDpX | cmpDpInd | cmpDpIndL | cmpDpXInd | cmpDpIndY | cmpDpIndLY | cmpAbs | cmpAbsX | cmpAbsY
  | cmpLong | cmpLongX | cmpSr | cmpSrIndY
  | cpxImm | cpxDp | cpxAbs | cpyImm | cpyDp | cpyAbs
  | andImm | andDp | andDpX | andDpInd | andDpIndL | andDpXInd | andDpIndY | andDpIndLY | andAbs | andAbsX | andAbsY
  | andLong | andLongX | andSr | andSrIndY
  | oraImm | oraDp | oraDpX | oraDpInd | oraDpIndL | oraDpXInd | oraDpIndY | oraDpIndLY | oraAbs | oraAbsX | oraAbsY
  | oraLong | oraLongX | oraSr | oraSrIndY
  | eorImm | eorDp | eorDpX | eorDpInd | eorDpIndL | eorDpXInd | eorDpIndY | eorDpIndLY | eorAbs | eorAbsX | eorAbsY
  | eorLong | eorLongX | eorSr | eorSrIndY => exact ⟨_, rfl, rfl⟩
  | _ => exact absurd h (by decide)

/-- An instruction that reads its operand, updates the state with its value and moves PC past its bytes (R38, R96). -/
theorem readsOperand_of_advance {i : Instr} {s : State} {narrow : Bool} {o : Operand} {f : Word → State}
    (ho : i.sourceOperand = some o) (hnarrow : i.mnemonic.immediateNarrow s.p.m s.p.x = narrow)
    (update : Word → State → State)
    (hexec : exec i s = .next ((update (o.read (Width.ofFlag narrow) i.opcode s)
      (o.afterRead (Width.ofFlag narrow) i.opcode s)).advance (o.length (Width.ofFlag narrow))))
    (hmem : ∀ v u m b, update v { u with mem := m, bus := b } = { update v u with mem := m, bus := b })
    (hpar : ∀ v u, (update v u).params = u.params) (hpc : ∀ v, (update v s).pc = s.pc)
    (hf : ∀ v : Word, v.toNat < 2 ^ bitsOf narrow → { update v s with pc := pcAfter i s } = f v) :
    ReadsOperand i s narrow f := by
  refine readsOperand_of_update (fun v u => (update v u).advance (o.length (Width.ofFlag narrow))) ho hexec
    (fun v u m b => by rw [hmem]; rfl) hpar fun v hv => ?_
  rw [← hf v hv, State.advance, hpc, ← hnarrow, length_of_sourceOperand ho, pcAfter]

end Sys2Proof.Machine
end

section
/-! PROOFS. ADC and SBC (R242-R247). -/

namespace Sys2Proof.Machine

open Sys2Proof.Claims

/-! ### The results as numbers -/

section

variable (narrow decimal : Bool) {a b : Word} (c : Bool) (ha : a.toNat < 2 ^ bitsOf narrow) (hb : b.toNat < 2 ^ bitsOf narrow)

/-- The value of ADC: the decimal adder's in decimal mode, else the binary sum (R246). -/
theorem adcResult_value :
    (adcResult (Width.ofFlag narrow) decimal a b c).value.toNat =
      if decimal then (decAdd (Width.ofFlag narrow) a b c).1.toNat
      else (a.toNat + b.toNat + c.toNat) % 2 ^ bitsOf narrow := by
  cases decimal
  · exact (binAdd_value _ a b c).trans (by rw [bits_ofFlag]; rfl)
  · rfl

theorem adcResult_carry :
    (adcResult (Width.ofFlag narrow) decimal a b c).carry =
      if decimal then (decAdd (Width.ofFlag narrow) a b c).2
      else decide (2 ^ bitsOf narrow ≤ a.toNat + b.toNat + c.toNat) := by
  rw [← bits_ofFlag]
  cases decimal <;> rfl

include ha hb in
/-- The overflow of ADC is that of the binary sum in both modes (R246, D13). -/
theorem adcResult_overflow :
    (adcResult (Width.ofFlag narrow) decimal a b c).overflow =
      outOfRange (bitsOf narrow) (signedOf (bitsOf narrow) a.toNat + signedOf (bitsOf narrow) b.toNat + c.toNat) := by
  rw [← bits_ofFlag] at ha hb ⊢
  cases decimal <;> exact binAdd_overflow _ a b c ha hb

theorem adcResult_lt : (adcResult (Width.ofFlag narrow) decimal a b c).value.toNat < 2 ^ bitsOf narrow := by
  rw [adcResult_value]
  split
  · exact decAdd_lt narrow a b c
  · exact Nat.mod_lt _ (Nat.two_pow_pos _)

/-- The value of SBC: the decimal subtractor's in decimal mode, else the binary difference (R247). -/
theorem sbcResult_value :
    (sbcResult (Width.ofFlag narrow) decimal a b c).value.toNat =
      if decimal then (decSub (Width.ofFlag narrow) a b c).1.toNat
      else (((a.toNat : Int) - b.toNat - (1 - c.toNat)) % 2 ^ bitsOf narrow).toNat := by
  cases decimal
  · rw [← bits_ofFlag, if_neg Bool.false_ne_true, ← binSub_value, Int.toNat_natCast]
    rfl
  · rfl

theorem sbcResult_carry :
    (sbcResult (Width.ofFlag narrow) decimal a b c).carry =
      if decimal then (decSub (Width.ofFlag narrow) a b c).2
      else decide (0 ≤ (a.toNat : Int) - b.toNat - (1 - c.toNat)) := by
  cases decimal <;> rfl

include ha hb in
/-- The overflow of SBC is that of the binary difference in both modes (R247, D13). -/
theorem sbcResult_overflow :
    (sbcResult (Width.ofFlag narrow) decimal a b c).overflow =
      outOfRange (bitsOf narrow)
        (signedOf (bitsOf narrow) a.toNat - signedOf (bitsOf narrow) b.toNat - (1 - c.toNat)) := by
  rw [← bits_ofFlag] at ha hb ⊢
  cases decimal <;> exact binSub_overflow _ a b c ha hb

theorem sbcResult_lt : (sbcResult (Width.ofFlag narrow) decimal a b c).value.toNat < 2 ^ bitsOf narrow := by
  rw [sbcResult_value]
  split
  · exact decSub_lt narrow a b c
  · have hpos : (0 : Int) < 2 ^ bitsOf narrow := by positivity
    zify
    rw [Int.toNat_of_nonneg (Int.emod_nonneg _ hpos.ne')]
    exact Int.emod_lt_of_pos _ hpos

end

/-! ### The obligations on ADC and SBC -/

/-- A result with its carry and overflow goes into the accumulator and the flags (R246, R247). -/
def writeResult (narrow : Bool) (r : AluResult) (s : State) : State :=
  (((s.setV r.overflow).setC r.carry).setA (Width.ofFlag narrow) r.value).setNZ (Width.ofFlag narrow) r.value

/-- The state of `writeResult` in the words of the claims. -/
theorem writeResult_eq {narrow : Bool} {r : AluResult} (s : State) (h : r.value.toNat < 2 ^ bitsOf narrow) :
    writeResult narrow r s =
      { s with a := putAt narrow s.a r.value,
               p := { nzOf s.p narrow r.value.toNat with c := r.carry, v := r.overflow } } := by
  rw [writeResult, setNZ_ofFlag, atWidth_of_lt h, State.setA, merge_ofFlag]
  rfl

/-- An instruction that writes the result of an adder on its operand (R246, R247). -/
theorem readsOperand_of_writeResult {i : Instr} {s : State} {o : Operand} {alu : Word → AluResult}
    (ho : i.sourceOperand = some o) (hnarrow : i.mnemonic.immediateNarrow s.p.m s.p.x = s.p.m)
    (hexec : exec i s = .next ((writeResult s.p.m (alu (o.read s.wA i.opcode s)) (o.afterRead s.wA i.opcode s)).advance
      (o.length s.wA)))
    (hlt : ∀ v, (alu v).value.toNat < 2 ^ bitsOf s.p.m) {res : Word → Nat} {carry overflow : Word → Bool}
    (halu : ∀ v : Word, v.toNat < 2 ^ bitsOf s.p.m →
      (alu v).value.toNat = res v ∧ (alu v).carry = carry v ∧ (alu v).overflow = overflow v) :
    ReadsOperand i s s.p.m fun v =>
      { s with a := putAt s.p.m s.a (BitVec.ofNat 16 (res v)),
               p := { nzOf s.p s.p.m (res v) with c := carry v, v := overflow v }, pc := pcAfter i s } := by
  refine readsOperand_of_advance ho hnarrow (fun v => writeResult s.p.m (alu v)) hexec (fun _ _ _ _ => rfl)
    (fun _ _ => rfl) (fun _ => rfl) fun v hv => ?_
  obtain ⟨hvalue, hcarry, hoverflow⟩ := halu v hv
  rw [writeResult_eq s (hlt v), hcarry, hoverflow, ← hvalue, BitVec.ofNat_toNat, BitVec.setWidth_eq]

/-- Settles O16: the adder's result is written, and it is the decimal adder's or the binary sum. -/
theorem adcResultAndFlags : Obligations.AdcResultAndFlags := by
  intro i s h
  obtain ⟨o, ho, hexec⟩ := exec_alu s h (by decide)
  have ha := trunc_ofFlag_toNat_lt s.p.m s.a
  refine readsOperand_of_writeResult (alu := fun v => adcResult s.wA s.p.d (s.getA s.wA) v s.p.c) ho (h ▸ rfl) hexec
    (fun v => adcResult_lt _ _ _) fun v hv => ?_
  rw [ofNat_atWidth, ← trunc_ofFlag_toNat]
  exact ⟨adcResult_value _ _ _, adcResult_carry _ _ _, adcResult_overflow _ _ _ ha hv⟩

/-- Settles O17: the subtractor's result is written, and it is the decimal subtractor's or the binary difference. -/
theorem sbcResultAndFlags : Obligations.SbcResultAndFlags := by
  intro i s h
  obtain ⟨o, ho, hexec⟩ := exec_alu s h (by decide)
  have ha := trunc_ofFlag_toNat_lt s.p.m s.a
  refine readsOperand_of_writeResult (alu := fun v => sbcResult s.wA s.p.d (s.getA s.wA) v s.p.c) ho (h ▸ rfl) hexec
    (fun v => sbcResult_lt _ _ _) fun v hv => ?_
  rw [ofNat_atWidth, ← trunc_ofFlag_toNat]
  exact ⟨sbcResult_value _ _ _, sbcResult_carry _ _ _, sbcResult_overflow _ _ _ ha hv⟩

end Sys2Proof.Machine
end

section
/-! PROOFS. CMP, CPX and CPY (R248-R250). -/

namespace Sys2Proof.Machine

open Sys2Proof.Claims

/-- The flags of a comparison of two values at a width (R248). -/
theorem compare_ofFlag (s : State) {narrow : Bool} {a b : Word} (ha : a.toNat < 2 ^ bitsOf narrow)
    (hb : b.toNat < 2 ^ bitsOf narrow) :
    s.compare (Width.ofFlag narrow) a b = { s with p := compareFlags s.p (bitsOf narrow) a.toNat b.toNat } := by
  have hdiff : (a - b).toNat % 2 ^ bitsOf narrow = (a.toNat + 2 ^ bitsOf narrow - b.toNat) % 2 ^ bitsOf narrow := by
    rw [BitVec.toNat_sub]
    cases narrow <;> simp only [bitsOf, if_true, if_false, Bool.false_eq_true] at ha hb ⊢ <;> omega
  rw [State.compare, sign_eq, bits_ofFlag, hdiff, decide_eq_decide.mpr BitVec.toNat_inj.symm]
  rfl

/-- A comparison of a register with the operand at a width (R248-R250). -/
theorem readsOperand_of_compare {i : Instr} {s : State} {narrow : Bool} {o : Operand} {reg : Word}
    (ho : i.sourceOperand = some o) (hnarrow : i.mnemonic.immediateNarrow s.p.m s.p.x = narrow)
    (hexec : exec i s = .next (((o.afterRead (Width.ofFlag narrow) i.opcode s).compare (Width.ofFlag narrow)
      ((Width.ofFlag narrow).trunc reg) (o.read (Width.ofFlag narrow) i.opcode s)).advance
        (o.length (Width.ofFlag narrow)))) :
    ReadsOperand i s narrow fun v =>
      { s with p := compareFlags s.p (bitsOf narrow) (atWidth narrow reg) v.toNat, pc := pcAfter i s } := by
  refine readsOperand_of_advance ho hnarrow
    (fun v u => u.compare (Width.ofFlag narrow) ((Width.ofFlag narrow).trunc reg) v) hexec (fun _ _ _ _ => rfl)
    (fun _ _ => rfl) (fun _ => rfl) fun v hv => ?_
  rw [compare_ofFlag s (trunc_ofFlag_toNat_lt narrow reg) hv, trunc_ofFlag_toNat]

/-- Settles O19: each comparison is that of its register at its width. -/
theorem comparesSetCarryZeroNegative : Obligations.ComparesSetCarryZeroNegative := by
  intro i s
  refine ⟨fun h => ⟨opcode_mem_of_mnemonic h (by decide), ?_⟩, fun h => ⟨opcode_mem_of_mnemonic h (by decide), ?_⟩,
    fun h => ⟨opcode_mem_of_mnemonic h (by decide), ?_⟩⟩
  all_goals obtain ⟨o, ho, hexec⟩ := exec_alu s h (by decide)
  all_goals exact readsOperand_of_compare ho (h ▸ rfl) hexec

end Sys2Proof.Machine
end

section
/-! PROOFS. AND, ORA, EOR and BIT (R251-R254). -/

namespace Sys2Proof.Machine

open Sys2Proof.Claims

/-- A bitwise operation of the accumulator and the operand, written into the accumulator at its width (R251-R253). -/
theorem readsOperand_of_bitwise {i : Instr} {s : State} {o : Operand} (g : Word → Word → Word)
    (hg : ∀ (w : Width) (a v : Word), w.trunc (g (w.trunc a) v) = w.trunc (g a v)) (ho : i.sourceOperand = some o)
    (hnarrow : i.mnemonic.immediateNarrow s.p.m s.p.x = s.p.m)
    (hexec : exec i s = .next ((((o.afterRead s.wA i.opcode s).setA s.wA (g (s.getA s.wA) (o.read s.wA i.opcode s))).setNZ
      s.wA (g (s.getA s.wA) (o.read s.wA i.opcode s))).advance (o.length s.wA))) :
    ReadsOperand i s s.p.m fun v =>
      { s with a := putAt s.p.m s.a (g s.a v), p := nzOf s.p s.p.m (atWidth s.p.m (g s.a v)), pc := pcAfter i s } := by
  refine readsOperand_of_advance ho hnarrow
    (fun v u => (u.setA s.wA (g (s.getA s.wA) v)).setNZ s.wA (g (s.getA s.wA) v)) hexec (fun _ _ _ _ => rfl)
    (fun _ _ => rfl) (fun _ => rfl) fun v _ => ?_
  have hres : atWidth s.p.m (g (s.getA s.wA) v) = atWidth s.p.m (g s.a v) := atWidth_congr (hg s.wA s.a v)
  rw [← putAt_congr s.a hres, ← hres, ← merge_ofFlag]
  exact congrArg (fun t : State => { t with pc := pcAfter i s }) (setNZ_ofFlag _ _ _)

/-- Settles O20: a bitwise operation at the width takes of the accumulator only what the width keeps. -/
theorem logicIntoAccumulator : Obligations.LogicIntoAccumulator := by
  intro i s after
  refine ⟨fun h => ⟨opcode_mem_of_mnemonic h (by decide), ?_⟩, fun h => ⟨opcode_mem_of_mnemonic h (by decide), ?_⟩,
    fun h => ⟨opcode_mem_of_mnemonic h (by decide), ?_⟩⟩
  all_goals obtain ⟨o, ho, hexec⟩ := exec_alu s h (by decide)
  · exact readsOperand_of_bitwise (· &&& ·) (by simp [trunc_and]) ho (h ▸ rfl) hexec
  · exact readsOperand_of_bitwise (· ||| ·) (by simp [trunc_or]) ho (h ▸ rfl) hexec
  · exact readsOperand_of_bitwise (· ^^^ ·) (by simp [trunc_xor]) ho (h ▸ rfl) hexec

/-- What BIT does with its operand's value: the immediate form writes z only (R254). -/
def writeBit (immediate : Bool) (w : Width) (a v : Word) (s : State) : State :=
  { s with p := if immediate then { s.p with z := decide (a &&& v = 0) }
             else { s.p with z := decide (a &&& v = 0), n := w.sign v, v := v.getLsbD (w.bits - 2) } }

/-- Every BIT has a source operand, and the form with tag IMM_M is the immediate one. -/
theorem exec_bit {i : Instr} (s : State) (h : i.mnemonic = .bit) :
    ∃ o, i.sourceOperand = some o ∧
      exec i s = .next ((writeBit (decide (i.tag = .immM)) s.wA (s.getA s.wA) (o.read s.wA i.opcode s)
        (o.afterRead s.wA i.opcode s)).advance (o.length s.wA)) := by
  cases i with dsimp only [Instr.mnemonic, Instr.row] at h
  | bitImm | bitDp | bitDpX | bitAbs | bitAbsX => exact ⟨_, rfl, rfl⟩
  | _ => exact absurd h (by decide)

theorem getLsbD_eq_decide (v : Word) (k : Nat) : v.getLsbD k = decide (v.toNat / 2 ^ k % 2 = 1) := by
  rw [BitVec.getLsbD, Nat.testBit_eq_decide_div_mod_eq]

/-- Settles O21: the zero test and the operand's two top bits, in the form that the tag says. -/
theorem bitTestsOperand : Obligations.BitTestsOperand := by
  intro i s h
  refine ⟨opcode_mem_of_mnemonic h (by decide), ?_⟩
  obtain ⟨o, ho, hexec⟩ := exec_bit s h
  refine readsOperand_of_advance ho (h ▸ rfl) (writeBit (decide (i.tag = .immM)) s.wA (s.getA s.wA)) hexec
    (fun _ _ _ _ => rfl) (fun _ _ => rfl) (fun _ => rfl) fun v hv => ?_
  simp only [writeBit, Width.sign, getLsbD_eq_decide, State.wA, State.getA, bits_ofFlag, trunc_and_eq_zero_iff hv,
    decide_eq_true_eq]

end Sys2Proof.Machine
end

section
/-! PROOFS. TSB and TRB (R255, R256). -/

namespace Sys2Proof.Machine

open Sys2Proof.Claims

/-- The meaning of TSB or TRB by its mnemonic. -/
def testOp : Mnemonic → Byte → MemOperand → State → State
  | .tsb => tsbOp
  | _ => trbOp

/-- TSB and TRB have a memory operand, and their meaning is that of their mnemonic with it. -/
theorem exec_test {i : Instr} {mn : Mnemonic} (s : State) (hmn : i.mnemonic = mn) (h : mn ∈ [Mnemonic.tsb, .trb]) :
    ∃ o, i.memOperand = some o ∧ exec i s = .next (testOp mn i.opcode o s) := by
  subst hmn
  cases i with dsimp only [Instr.mnemonic, Instr.row] at h
  | tsbDp | tsbAbs | trbDp | trbAbs => exact ⟨_, rfl, rfl⟩
  | _ => exact absurd h (by decide)

/-- A read-modify-write of a memory operand at the width of A that writes back and sets the flags as `f` says (R85, R96). -/
theorem writesOperand_of_rmw_write {i : Instr} {s : State} {o : MemOperand} {f : Word → Word × Flags}
    (ho : i.memOperand = some o)
    (hexec : exec i s = .next { (RmwOperand.mem o).write s.wA i.opcode s (f (o.read s.wA i.opcode s)).1 with
      p := (f (o.read s.wA i.opcode s)).2, pc := pcAfter i s }) :
    WritesOperand i s s.p.m true f := by
  refine ⟨o, ho, ?_⟩
  intro ea r before t
  have hread : o.read s.wA i.opcode s = operandValue s.p.m i.opcode s (.mem o) := operand_read_eq s.p.m i.opcode s (.mem o)
  have ht : t = { (RmwOperand.mem o).write s.wA i.opcode s r.1 with p := r.2, pc := pcAfter i s } := by
    rw [rmw_write_mem]
    exact performed_update s (fun u => { u with p := r.2, pc := pcAfter i s }) (fun _ _ => rfl) rfl _
  rw [hexec, hread, ht]
  exact ⟨rfl, rmw_write_mem_storesAt i.opcode o s r.1⟩

/-- A write of z and a store do not meet. -/
theorem setZ_writeAt (s : State) (z : Bool) (w : Width) (ea : Ea) (v : Word) :
    (s.setZ z).writeAt w ea v = (s.writeAt w ea v).setZ z := by
  cases w <;> rfl

/-- z from A and the old operand, then `g` of the operand and A written back at the width (R255, R256). -/
theorem writesOperand_of_test {i : Instr} {s : State} {o : MemOperand} (g : Word → Word → Word)
    (hg : ∀ (w : Width) (b a : Word), w.trunc (g b (w.trunc a)) = w.trunc (g b a)) (ho : i.memOperand = some o)
    (hexec : exec i s = .next ((((o.afterRead s.wA i.opcode s).setZ
      (decide (s.getA s.wA &&& o.read s.wA i.opcode s = 0))).writeAt s.wA (o.ea i.opcode s)
        (g (o.read s.wA i.opcode s) (s.getA s.wA))).advance o.length)) :
    WritesOperand i s s.p.m true fun b => (g b s.a, { s.p with z := decide (atWidth s.p.m (s.a &&& b) = 0) }) := by
  refine writesOperand_of_rmw_write ho ?_
  have hz : s.getA s.wA &&& o.read s.wA i.opcode s = 0 ↔ atWidth s.p.m (s.a &&& o.read s.wA i.opcode s) = 0 :=
    trunc_and_eq_zero_iff (rmw_read_lt i.opcode (.mem o) s)
  obtain ⟨hp, hpc⟩ := rmw_write_p_pc i.opcode (.mem o) s s.wA (g (o.read s.wA i.opcode s) s.a)
  simp only [hexec, hz]
  rw [← writeAt_trunc, State.getA, hg, writeAt_trunc, setZ_writeAt, pcAfter, ← length_of_memOperand ho, ← hp, ← hpc]
  rfl

/-- Settles O22: the operand with A's bits set or reset is written back at the width. -/
theorem testAndSetResetBits : Obligations.TestAndSetResetBits := by
  intro i s
  refine ⟨fun h => ⟨opcode_mem_of_mnemonic h (by decide), ?_⟩, fun h => ⟨opcode_mem_of_mnemonic h (by decide), ?_⟩⟩
  all_goals obtain ⟨o, ho, hexec⟩ := exec_test s h (by decide)
  · exact writesOperand_of_test (· ||| ·) (by simp [trunc_or]) ho hexec
  · exact writesOperand_of_test (fun b a => b &&& ~~~a) (by simp [trunc_and, trunc_not_trunc]) ho hexec

end Sys2Proof.Machine
end

section
/-! PROOFS. INX, INY, DEX and DEY (R259-R262). -/

namespace Sys2Proof.Machine

open Sys2Proof.Claims

/-- A value at a width, plus one mod 2^w (R259, R260). -/
theorem trunc_trunc_add_one (narrow : Bool) (v : Word) :
    (Width.ofFlag narrow).trunc ((Width.ofFlag narrow).trunc v + 1) =
      BitVec.ofNat 16 ((atWidth narrow v + 1) % 2 ^ bitsOf narrow) := by
  rw [← trunc_ofFlag_toNat]
  exact congrArg Prod.fst (inc_resultWords narrow false)

/-- A value at a width, minus one mod 2^w (R261, R262). -/
theorem trunc_trunc_sub_one (narrow : Bool) (v : Word) :
    (Width.ofFlag narrow).trunc ((Width.ofFlag narrow).trunc v - 1) =
      BitVec.ofNat 16 ((atWidth narrow v + 2 ^ bitsOf narrow - 1) % 2 ^ bitsOf narrow) := by
  rw [← trunc_ofFlag_toNat]
  exact congrArg Prod.fst (dec_resultWords narrow false)

theorem atWidth_ofNat_mod (narrow : Bool) (n : Nat) :
    atWidth narrow (BitVec.ofNat 16 (n % 2 ^ bitsOf narrow)) = n % 2 ^ bitsOf narrow := by
  have hlt : n % 2 ^ bitsOf narrow < 2 ^ bitsOf narrow := Nat.mod_lt _ (Nat.two_pow_pos _)
  rw [atWidth, BitVec.toNat_ofNat, Nat.mod_eq_of_lt (hlt.trans_le (two_pow_bitsOf_le narrow)), Nat.mod_mod]

/-- Settles O25: the register at its width steps by one mod 2^w, and n, z and PC follow. -/
theorem indexIncrementDecrement : Obligations.IndexIncrementDecrement := by
  refine ⟨rfl, fun s => ?_⟩
  intro bits up down
  have hup : ∀ v, BitVec.ofNat 16 (up v) = s.wX.trunc (s.wX.trunc v + 1) := fun v => (trunc_trunc_add_one s.p.x v).symm
  have hdown : ∀ v, BitVec.ofNat 16 (down v) = s.wX.trunc (s.wX.trunc v - 1) := fun v =>
    (trunc_trunc_sub_one s.p.x v).symm
  have hupAt : ∀ v, atWidth s.p.x (s.wX.trunc (s.wX.trunc v + 1)) = up v := fun v => by
    rw [← hup]; exact atWidth_ofNat_mod s.p.x _
  have hdownAt : ∀ v, atWidth s.p.x (s.wX.trunc (s.wX.trunc v - 1)) = down v := fun v => by
    rw [← hdown]; exact atWidth_ofNat_mod s.p.x _
  simp only [hup, hdown, ← merge_ofFlag]
  exact ⟨congrArg _ (setNZ_advance_one (s.setX s.wX _) (hupAt s.x)),
    congrArg _ (setNZ_advance_one (s.setY s.wX _) (hupAt s.y)),
    congrArg _ (setNZ_advance_one (s.setX s.wX _) (hdownAt s.x)),
    congrArg _ (setNZ_advance_one (s.setY s.wX _) (hdownAt s.y))⟩

end Sys2Proof.Machine
end

section
/-! PROOFS. The branches (R301-R310). -/

namespace Sys2Proof.Machine

open Sys2Proof.Claims

/-- The sign extension of a displacement: as it is up to 0x7F, 256 lower above (R162). -/
theorem sextByte_eq (d : Byte) :
    sextByte d = if d.toNat ≤ 0x7F then BitVec.ofNat 16 d.toNat else BitVec.ofNat 16 d.toNat - 256 := by
  have hd := d.isLt
  have hsext : (sextByte d).toNat = d.toNat + if 0x80 ≤ d.toNat then 0xFF00 else 0 := by
    rw [sextByte, BitVec.toNat_signExtend, BitVec.msb_eq_decide, BitVec.toNat_setWidth, Nat.mod_eq_of_lt (by omega)]
    simp
  split
  · next h =>
    rw [if_neg (by omega)] at hsext
    bv_omega
  · next h =>
    rw [if_pos (by omega)] at hsext
    bv_omega

/-- The machine's branch target is the source's (R162). -/
theorem rel8Target_eq (i0 : Word) (d : Byte) : rel8Target i0 d = branchTarget i0 d := by
  rw [rel8Target, sextByte_eq, branchTarget]
  split
  · rfl
  · bv_omega

/-- A branch writes PC only: the target if it is taken, else the next instruction (R301). -/
theorem branch_eq (s : State) (taken : Bool) (d : Byte) :
    s.branch taken d = { s with pc := if taken then branchTarget s.pc d else s.pc + 2 } := by
  cases taken
  · rfl
  · rw [← rel8Target_eq]; rfl

/-- Settles O26: each branch is taken on its flag. -/
theorem conditionalBranches : Obligations.ConditionalBranches := by
  refine ⟨fun _ => rfl, fun s d => ?_⟩
  have hnext : ∀ taken, (.next (s.branch taken d) : Result) = _ := fun taken => congrArg _ (branch_eq s taken d)
  simp only [beq_false, beq_true]
  exact ⟨hnext (!s.p.n), hnext s.p.n, hnext (!s.p.v), hnext s.p.v, hnext (!s.p.c), hnext s.p.c, hnext (!s.p.z),
    hnext s.p.z, hnext true⟩

end Sys2Proof.Machine
end

section
/-! PROOFS. Jumps and the long branch (R311-R313). -/

namespace Sys2Proof.Machine

open Sys2Proof.Claims

theorem readsOf_succ (place : Nat → Addr) (n : Nat) : readsOf place (n + 1) = readsOf place n ++ [.read (place n)] := by
  simp [readsOf, List.range_succ]

/-! ### Addresses as places in a bank -/

theorem addrOf_eq_inBank (b : Byte) (o : Word) : addrOf b o = inBank b o.toNat 0 := by
  apply BitVec.eq_of_toNat_eq
  have ho := o.isLt
  rw [addrOf_toNat, inBank_toNat]
  omega

/-- Where `(abs,X)` has its pointer: X at its width is added in the program bank (R159). -/
theorem absXPointer_eq_inBank (s : State) (hhll : Word) :
    s.absXPointer hhll = inBank s.pbr (hhll.toNat + atWidth s.p.x s.x) 0 := by
  apply BitVec.eq_of_toNat_eq
  rw [State.absXPointer, addrOf_toNat, BitVec.toNat_add, idxX_toNat, inBank_toNat, Nat.add_zero]

/-- A long target as bank and offset (R155). -/
theorem jumpLong_eq (s : State) (v : Addr) :
    s.jumpLong v = { s with pbr := BitVec.ofNat 8 (v.toNat / 65536), pc := BitVec.ofNat 16 (v.toNat % 65536) } := by
  rw [← bankOf_toNat, ← offsetOf_toNat, BitVec.ofNat_toNat, BitVec.ofNat_toNat, BitVec.setWidth_eq, BitVec.setWidth_eq]
  rfl

/-- The target of a Relative16 branch, the sum taken before the wrap (R163). -/
theorem rel16Target_eq (i0 d : Word) : rel16Target i0 d = BitVec.ofNat 16 (i0.toNat + 3 + d.toNat) := by
  rw [rel16Target]
  bv_omega

/-! ### Jumps and accesses -/

/-- A jump does not meet the accesses (R96). -/
theorem performed_jump (s : State) (v : Word) (events : List BusEvent) :
    performed (s.jump v) events = (performed s events).jump v :=
  performed_update s (·.jump v) (fun _ _ => rfl) rfl events

theorem performed_jumpLong (s : State) (v : Addr) (events : List BusEvent) :
    performed (s.jumpLong v) events = (performed s events).jumpLong v :=
  performed_update s (·.jumpLong v) (fun _ _ => rfl) rfl events

/-! ### Jumps through a pointer -/

section

variable {s : State} {a : Addr} {b : Byte} {o : Nat}

theorem noteReads_pointer16 (h : a = inBank b o 0) :
    s.noteReads (pointerBytes16 a) = performed s (readsOf (inBank b o) 2) := by
  rw [noteReads_eq_performed, pointerBytes16_eq h]; rfl

theorem noteReads_pointer24 (h : a = inBank b o 0) :
    s.noteReads (pointerBytes24 a) = performed s (readsOf (inBank b o) 3) := by
  rw [noteReads_eq_performed, pointerBytes24_eq h]; rfl

theorem pointer16_eq_valueOf (h : a = inBank b o 0) : s.pointer16 a = valueOf s false [] (inBank b o) := by
  rw [h, pointer16_inBank]; rfl

/-- A 24-bit pointer is its third byte over the word of the other two (R148, R158). -/
theorem pointer24_eq_addrOf (h : a = inBank b o 0) :
    s.pointer24 a = addrOf (byteOf s [] (inBank b o) 2) (valueOf s false [] (inBank b o)) := by
  rw [h, pointer24_inBank]; rfl

/-- A jump through a 16-bit pointer (R312). -/
theorem jump_pointer16 (h : a = inBank b o 0) :
    (s.noteReads (pointerBytes16 a)).jump (s.pointer16 a) =
      performed { s with pc := valueOf s false [] (inBank b o) } (readsOf (inBank b o) 2) := by
  rw [noteReads_pointer16 h, pointer16_eq_valueOf h, ← performed_jump]
  rfl

/-- A jump through a 24-bit pointer (R313). -/
theorem jumpLong_pointer24 (h : a = inBank b o 0) :
    (s.noteReads (pointerBytes24 a)).jumpLong (s.pointer24 a) =
      performed { s with pbr := byteOf s [] (inBank b o) 2, pc := valueOf s false [] (inBank b o) }
        (readsOf (inBank b o) 3) := by
  rw [noteReads_pointer24 h, pointer24_eq_addrOf h, ← performed_jumpLong, State.jumpLong, bankOf_addrOf, offsetOf_addrOf]

end

/-- Settles O27: the target is the operand, or the pointer read at its place in bank 0 or PBR. -/
theorem jumpsAndLongBranch : Obligations.JumpsAndLongBranch := by
  refine ⟨fun _ _ => rfl, fun s d hhll v => ?_⟩
  intro ptr ptrX
  have hptr : addrOf 0 hhll = ptr 0 := addrOf_eq_inBank 0 hhll
  have hptrX : s.absXPointer hhll = ptrX 0 := absXPointer_eq_inBank s hhll
  refine ⟨?_, rfl, congrArg _ (jump_pointer16 hptr), congrArg _ (jump_pointer16 hptrX), congrArg _ (jumpLong_eq s v),
    congrArg _ (jumpLong_pointer24 hptr)⟩
  rw [← rel16Target_eq]
  rfl

end Sys2Proof.Machine
end

section
/-! PROOFS. Runs of pushes and pulls: the slots, the accesses, and pulls after pushes (R34, R91-R94, R96). -/

namespace Sys2Proof.Machine

open Sys2Proof.Claims

/-! ### SP in a run -/

theorem loByte_add (v w : Word) : loByte (v + w) = loByte v + loByte w := by
  apply BitVec.eq_of_toNat_eq
  simp only [loByte_toNat, BitVec.toNat_add]
  omega

theorem loByte_sub (v w : Word) : loByte (v - w) = loByte v - loByte w := by
  have hw := w.isLt
  apply BitVec.eq_of_toNat_eq
  simp only [loByte_toNat, BitVec.toNat_sub]
  omega

theorem loByte_ofNat (k : Nat) : loByte (BitVec.ofNat 16 k) = BitVec.ofNat 8 k := by
  apply BitVec.eq_of_toNat_eq
  simp only [loByte_toNat, BitVec.toNat_ofNat]
  omega

/-- In emulation mode only the low byte moves SP, so pinning SP on the way does not matter (R34). -/
theorem pinStack_pinStack_add (e : Bool) (v w : Word) : pinStack e (pinStack e v + w) = pinStack e (v + w) := by
  cases e
  · rfl
  · rw [pinStack_emulation, pinStack_emulation (v + w), loByte_add, loByte_pinStack, loByte_add]

theorem pinStack_pinStack_sub (e : Bool) (v w : Word) : pinStack e (pinStack e v - w) = pinStack e (v - w) := by
  cases e
  · rfl
  · rw [pinStack_emulation, pinStack_emulation (v - w), loByte_sub, loByte_pinStack, loByte_sub]

/-- R49 for SP: it is pinned in emulation mode. -/
theorem pinStack_of_emulationOk {s : State} (h : s.emulationOk = true) : pinStack s.p.e s.sp = s.sp := by
  cases he : s.p.e with
  | false => rfl
  | true =>
    have hhi : hiByte s.sp = 0x01 := by simp_all [State.emulationOk]
    rw [pinStack_emulation, ← hhi, wordOf_hi_lo]

section

variable (e : Bool) (sp : Word) (k : Nat)

theorem pullSp_eq : pullSp e sp k = pinStack e (sp + BitVec.ofNat 16 k) := by
  cases e
  · rfl
  · rw [pinStack_emulation, loByte_add, loByte_ofNat]; rfl

theorem pushSp_succ_eq : pushSp e sp (k + 1) = pinStack e (sp - BitVec.ofNat 16 (k + 1)) := by
  cases e
  · rfl
  · rw [pinStack_emulation, loByte_sub, loByte_ofNat]; rfl

/-- The first pull (R93). -/
theorem pullSp_one : pullSp e sp 1 = pinStack e (sp + 1) := pullSp_eq e sp 1

/-- One more pull (R93). -/
theorem pullSp_succ : pullSp e sp (k + 1) = pinStack e (pullSp e sp k + 1) := by
  rw [pullSp_eq, pullSp_eq, pinStack_pinStack_add, BitVec.add_assoc, BitVec.ofNat_add]
  rfl

/-- One more push (R91). -/
theorem pushSp_succ : pushSp e sp (k + 1) = pinStack e (pushSp e sp k - 1) := by
  cases k with
  | zero => exact pushSp_succ_eq e sp 0
  | succ k =>
    rw [pushSp_succ_eq, pushSp_succ_eq, pinStack_pinStack_sub, BitVec.sub_sub, BitVec.ofNat_add _ 1]
    rfl

theorem loByte_pushSp : loByte (pushSp e sp k) = loByte sp - BitVec.ofNat 8 k := by
  cases k with
  | zero => exact (BitVec.sub_zero _).symm
  | succ k => rw [pushSp_succ_eq, loByte_pinStack, loByte_sub, loByte_ofNat]

variable {e sp k}

/-- The slots of up to 256 pushes are different places, in page 1 too. -/
theorem pushSp_inj {j : Nat} (hj : j < 256) (hk : k < 256) : pushSp e sp j = pushSp e sp k ↔ j = k := by
  refine ⟨fun h => ?_, congrArg _⟩
  have hlo := congrArg loByte h
  rw [loByte_pushSp, loByte_pushSp] at hlo
  bv_omega

theorem pushSp_eq (hpin : pinStack e sp = sp) : pushSp e sp k = pinStack e (sp - BitVec.ofNat 16 k) := by
  cases k with
  | zero => simpa [pushSp] using hpin.symm
  | succ k => exact pushSp_succ_eq e sp k

/-- From a pinned SP, pulls go back over the pushes. -/
theorem pullSp_pushSp (hpin : pinStack e sp = sp) (m : Nat) : pullSp e (pushSp e sp (m + k)) k = pushSp e sp m := by
  rw [pullSp_eq, pushSp_eq hpin, pushSp_eq hpin, pinStack_pinStack_add, BitVec.ofNat_add, ← BitVec.sub_sub,
    BitVec.sub_add_cancel]

end

/-! ### Accesses and the registers a run moves -/

theorem performed_updateSp (s : State) (v : Word) (events : List BusEvent) :
    performed { s with sp := v } events = { performed s events with sp := v } :=
  performed_update s (fun u => { u with sp := v }) (fun _ _ => rfl) rfl events

theorem performed_updatePbrPc (s : State) (b : Byte) (v : Word) (events : List BusEvent) :
    performed { s with pbr := b, pc := v } events = { performed s events with pbr := b, pc := v } :=
  performed_update s (fun u => { u with pbr := b, pc := v }) (fun _ _ => rfl) rfl events

/-- A push after some accesses (R91). -/
theorem push8_performed (s : State) (events : List BusEvent) (v : Byte) :
    (performed s events).push8 v =
      performed { s with sp := pinStack s.p.e (s.sp - 1) } (events ++ [.write (addrOf 0 s.sp) v]) := by
  rw [push8_eq_performed, performed_sp, performed_p, ← performed_append]
  exact (performed_updateSp s _ _).symm

/-- A pull after some accesses (R93). -/
theorem pull8_performed (s : State) (events : List BusEvent) :
    (performed s events).pull8.2 =
      performed { s with sp := pinStack s.p.e (s.sp + 1) }
        (events ++ [.read (addrOf 0 (pinStack s.p.e (s.sp + 1)))]) := by
  rw [pull8_eq_performed, performed_sp, performed_p, ← performed_append]
  exact (performed_updateSp s _ _).symm

/-! ### Pushes -/

/-- The state after these bytes are pushed in order. -/
def State.pushes (s : State) (bytes : List Byte) : State := bytes.foldl State.push8 s

theorem pushes_append_singleton (s : State) (bytes : List Byte) (v : Byte) :
    s.pushes (bytes ++ [v]) = (s.pushes bytes).push8 v := by
  simp [State.pushes]

theorem pushWrites_append_singleton (s : State) (bytes : List Byte) (v : Byte) :
    pushWrites s (bytes ++ [v]) =
      pushWrites s bytes ++ [.write (addrOf 0 (pushSp s.p.e s.sp bytes.length)) v] := by
  have hinit : ∀ k ∈ List.range bytes.length, (bytes ++ [v]).getD k 0 = bytes.getD k 0 := fun k hk =>
    List.getD_append _ _ _ _ (List.mem_range.mp hk)
  simp only [pushWrites, List.length_append, List.length_singleton, List.range_succ, List.map_append, List.map_singleton]
  rw [List.map_congr_left fun k hk => by rw [hinit k hk]]
  simp

/-- A run of pushes is its writes, with SP below the last (R91, R92). -/
theorem pushes_performed (s : State) (events : List BusEvent) (bytes : List Byte) :
    (performed s events).pushes bytes =
      performed { s with sp := pushSp s.p.e s.sp bytes.length } (events ++ pushWrites s bytes) := by
  induction bytes using List.reverseRecOn with
  | nil => exact congrArg (performed s) (List.append_nil events).symm
  | append_singleton bytes v ih =>
    rw [pushes_append_singleton, ih, push8_performed, pushWrites_append_singleton, List.append_assoc, List.length_append,
      List.length_singleton, pushSp_succ]

@[simp] theorem pushes_p (s : State) (bytes : List Byte) : (s.pushes bytes).p = s.p := by
  rw [← performed_nil s, pushes_performed, performed_p, performed_p]

@[simp] theorem pushes_params (s : State) (bytes : List Byte) : (s.pushes bytes).params = s.params := by
  rw [← performed_nil s, pushes_performed, performed_params, performed_params]

/-- In plain RAM one more push fills one more slot. -/
theorem pushed_push8 {s t : State} {bytes : List Byte} (h : Pushed s t bytes) (v : Byte) (hram : t.params.memory = .ram)
    (he : t.p.e = s.p.e) (hlen : bytes.length < 256) : Pushed s (t.push8 v) (bytes ++ [v]) := by
  obtain ⟨hsp, hslots, hframe⟩ := h
  have hload := fun q => load_push8 t v q hram
  rw [hsp] at hload
  refine ⟨?_, fun k hk => ?_, fun q hq => ?_⟩
  · rw [push8_sp, he, hsp, ← pushSp_succ, List.length_append, List.length_singleton]
  · rw [List.length_append, List.length_singleton] at hk
    rw [hload]
    rcases Nat.lt_succ_iff_lt_or_eq.mp hk with hlt | rfl
    · have hne : addrOf 0 (pushSp s.p.e s.sp k) ≠ addrOf 0 (pushSp s.p.e s.sp bytes.length) := by
        rw [Ne, addrOf_inj, pushSp_inj (by omega) hlen]
        omega
      rw [if_neg hne, hslots k hlt, List.getD_append _ _ _ _ hlt]
    · simp
  · rw [List.length_append, List.length_singleton] at hq
    rw [hload, if_neg (hq _ (by omega))]
    exact hframe q fun k hk => hq k (by omega)

/-- In plain RAM a run of pushes fills its slots and changes no other byte (R91, R92). -/
theorem pushed_pushes (s : State) (bytes : List Byte) (hram : s.params.memory = .ram) (hlen : bytes.length ≤ 256) :
    Pushed s (s.pushes bytes) bytes := by
  induction bytes using List.reverseRecOn with
  | nil => exact ⟨rfl, fun k hk => absurd hk (Nat.not_lt_zero k), fun _ _ => rfl⟩
  | append_singleton bytes v ih =>
    rw [List.length_append, List.length_singleton] at hlen
    rw [pushes_append_singleton]
    exact pushed_push8 (ih (by omega)) v (by simpa using hram) (by simp) hlen

/-- An instruction that reads, then pushes, then moves PC and perhaps PBR. -/
theorem pushesTo_of_pushes {i : Instr} {s : State} (reads : List Addr) {bytes : List Byte} {b : Byte} {v : Word}
    (hlen : bytes.length ≤ 256)
    (hexec : exec i s = .next { (s.noteReads reads).pushes bytes with pbr := b, pc := v }) :
    PushesTo i s (reads.map BusEvent.read) bytes { s with pbr := b, pc := v } := by
  have ht := performed_updatePbrPc { s with sp := pushSp s.p.e s.sp bytes.length } b v
    (reads.map BusEvent.read ++ pushWrites s bytes)
  rw [← pushes_performed, ← noteReads_eq_performed] at ht
  refine ⟨hexec.trans (congrArg _ ht.symm), fun hram => ?_⟩
  refine ht ▸ ?_
  rw [noteReads_of_ram s reads hram]
  exact pushed_pushes s bytes hram hlen

/-! ### Pulls -/

/-- The state after n pulls of a byte. -/
def State.pulls (s : State) : Nat → State
  | 0 => s
  | n + 1 => (s.pulls n).pull8.2

/-- A run of pulls is its reads, with SP at the last (R93, R94). -/
theorem pulls_succ_eq (s : State) (n : Nat) :
    s.pulls (n + 1) = performed { s with sp := pullSp s.p.e s.sp (n + 1) } (readsOf (pullPlace s) (n + 1)) := by
  induction n with
  | zero =>
    have hpull := pull8_performed s []
    rw [performed_nil, ← pullSp_one] at hpull
    exact hpull
  | succ n ih =>
    rw [State.pulls, ih, pull8_performed, ← pullSp_succ, readsOf_succ _ (n + 1)]
    rfl

/-- The byte of the pull after n pulls (R93). -/
theorem pull8_pulls_value (s : State) (n : Nat) : (s.pulls n).pull8.1 = byteOf s [] (pullPlace s) n := by
  cases n with
  | zero =>
    rw [State.pulls, pull8_value, ← pullSp_one, byteOf, byteAfter, readsOf_zero, List.append_nil, performed_nil]
    rfl
  | succ n =>
    rw [pulls_succ_eq, pull8_value, performed_sp, performed_p, ← pullSp_succ, performed_updateSp]
    rfl

/-- A 16-bit pull is two pulls, the low byte's first (R94). -/
theorem pull16_eq (s : State) : s.pull16 = (pulledAt s false, s.pulls 2) := by
  have hlow : s.pull8.1 = byteOf s [] (pullPlace s) 0 := pull8_pulls_value s 0
  have hhigh : s.pull8.2.pull8.1 = byteOf s [] (pullPlace s) 1 := pull8_pulls_value s 1
  rw [State.pull16, hlow, hhigh]
  rfl

/-! ### Pulls after pushes, in plain RAM -/

/-- Accesses in plain RAM change cells only. -/
theorem performed_of_ram (s : State) (hram : s.params.memory = .ram) (events : List BusEvent) :
    performed s events = { s with mem := (performed s events).mem } := by
  simp [performed, hram]

theorem performed_readsOf_of_ram (s : State) (hram : s.params.memory = .ram) (place : Nat → Addr) (n : Nat) :
    performed s (readsOf place n) = s := by
  have hreads : readsOf place n = ((List.range n).map place).map BusEvent.read := List.map_map.symm
  rw [hreads, ← noteReads_eq_performed, noteReads_of_ram s _ hram]

section

variable {s t : State} {bytes : List Byte} (h : Pushed s t bytes) (he : t.p.e = s.p.e) (hpin : pinStack s.p.e s.sp = s.sp)

include h he hpin

/-- As many pulls as pushes bring SP back. -/
theorem pullSp_of_pushed : pullSp t.p.e t.sp bytes.length = s.sp := by
  obtain ⟨hsp, -, -⟩ := h
  have hback := pullSp_pushSp hpin (k := bytes.length) 0
  rwa [Nat.zero_add, ← hsp, ← he] at hback

/-- The pulls give the bytes pushed, the last one first. -/
theorem byteOf_pullPlace_of_pushed (hram : t.params.memory = .ram) {j k : Nat} (hlen : bytes.length = j + (k + 1)) :
    byteOf t [] (pullPlace t) k = bytes.getD j 0 := by
  obtain ⟨hsp, hslots, -⟩ := h
  rw [byteOf, List.nil_append, byteAfter, performed_readsOf_of_ram _ hram, pullPlace, hsp, he, hlen, pullSp_pushSp hpin]
  exact hslots j (by omega)

/-- A 16-bit pull after a 16-bit push gives the value pushed. -/
theorem pulledAt_of_pushed {front : List Byte} {v : Word} (hram : t.params.memory = .ram)
    (hlast : bytes = front ++ [hiByte v, loByte v]) : pulledAt t false = v := by
  have hlow := byteOf_pullPlace_of_pushed h he hpin hram (j := front.length + 1) (k := 0) (by simp [hlast])
  have hhigh := byteOf_pullPlace_of_pushed h he hpin hram (j := front.length) (k := 1) (by simp [hlast])
  subst hlast
  rw [pulledAt, valueOf, if_neg Bool.false_ne_true, hlow, hhigh]
  simp

end

end Sys2Proof.Machine
end

section
/-! PROOFS. Calls and returns (R314-R318). -/

namespace Sys2Proof.Machine

open Sys2Proof.Claims

/-- Settles O28: each call pushes its bytes after its reads and then jumps. -/
theorem callsPushTheirLastByte : Obligations.CallsPushTheirLastByte := by
  refine ⟨fun _ _ => rfl, fun s hhll v => ?_⟩
  intro ptr
  have hptr : s.absXPointer hhll = ptr 0 := absXPointer_eq_inBank s hhll
  refine ⟨pushesTo_of_pushes [] (by simp) rfl, pushesTo_of_pushes [ptr 0, ptr 1] (by simp) ?_,
    pushesTo_of_pushes [] (by simp) (congrArg _ (jumpLong_eq _ v))⟩
  rw [← pointerBytes16_eq hptr, ← pointer16_eq_valueOf hptr]
  rfl

/-- RTS is a 16-bit pull and a jump behind the value (R316). -/
theorem rtsOp_eq (s : State) :
    rtsOp s =
      performed { s with pc := pulledAt s false + 1, sp := pullSp s.p.e s.sp 2 } (readsOf (pullPlace s) 2) := by
  rw [rtsOp, pull16_eq, pulls_succ_eq, ← performed_jump]
  rfl

/-- RTL pulls a third byte, the bank (R317). -/
theorem rtlOp_eq (s : State) :
    rtlOp s =
      performed { s with pc := pulledAt s false + 1, pbr := pulled s 3, sp := pullSp s.p.e s.sp 3 }
        (readsOf (pullPlace s) 3) := by
  have hbank : (s.pulls 2).pull8.1 = pulled s 3 := pull8_pulls_value s 2
  rw [rtlOp, pull16_eq, hbank]
  refine Eq.trans ?_ (performed_updatePbrPc { s with sp := pullSp s.p.e s.sp 3 } _ _ _).symm
  rw [← pulls_succ_eq]
  rfl

/-- Settles O29. -/
theorem returnsPullAndAddOne : Obligations.ReturnsPullAndAddOne :=
  ⟨rfl, fun s => ⟨congrArg Host.Outcome.next (rtsOp_eq s), congrArg Host.Outcome.next (rtlOp_eq s)⟩⟩

/-! ### A call and its return, in plain RAM -/

theorem rtsOp_of_ram {s : State} (hram : s.params.memory = .ram) :
    rtsOp s = { s with pc := pulledAt s false + 1, sp := pullSp s.p.e s.sp 2 } := by
  rw [rtsOp_eq, performed_readsOf_of_ram]
  exact hram

theorem rtlOp_of_ram {s : State} (hram : s.params.memory = .ram) :
    rtlOp s = { s with pc := pulledAt s false + 1, pbr := pulled s 3, sp := pullSp s.p.e s.sp 3 } := by
  rw [rtlOp_eq, performed_readsOf_of_ram]
  exact hram

section

variable {s : State} {i : Instr} {before : List BusEvent} {bytes : List Byte} {b : Byte} {v w : Word}
  (hram : s.params.memory = .ram)

include hram in
/-- In plain RAM a call changes PBR, PC, SP and the slots of its pushes only. -/
theorem exec_of_pushesTo (h : PushesTo i s before bytes { s with pbr := b, pc := w }) : ∃ m : Memory,
    exec i s = .next { s with pbr := b, pc := w, sp := pushSp s.p.e s.sp bytes.length, mem := m } ∧
      Pushed s { s with pbr := b, pc := w, sp := pushSp s.p.e s.sp bytes.length, mem := m } bytes := by
  obtain ⟨hexec, hpushed⟩ := h
  have hcells := performed_of_ram { s with pbr := b, pc := w, sp := pushSp s.p.e s.sp bytes.length } hram
    (before ++ pushWrites s bytes)
  refine ⟨_, hexec.trans (congrArg _ hcells), ?_⟩
  rw [← hcells]
  exact hpushed hram

variable (hpin : pinStack s.p.e s.sp = s.sp)

include hram hpin

/-- RTS takes back what a call in the bank pushed (R318). -/
theorem rts_resumes (h : PushesTo i s before [hiByte v, loByte v] { s with pc := w }) :
    ∃ t u : State, exec i s = .next t ∧ exec .rts t = .next u ∧ { u with mem := s.mem } = { s with pc := v + 1 } := by
  obtain ⟨m, hexec, hpushed⟩ := exec_of_pushesTo hram (b := s.pbr) h
  refine ⟨_, _, hexec, congrArg Host.Outcome.next (rtsOp_of_ram hram), ?_⟩
  have hsp := pullSp_of_pushed hpushed rfl hpin
  have hpc := pulledAt_of_pushed (front := []) hpushed rfl hpin hram rfl
  dsimp only [List.length_cons, List.length_nil, Nat.zero_add, Nat.reduceAdd] at hsp hpc ⊢
  rw [hsp, hpc]

/-- RTL takes back what a long call pushed (R318). -/
theorem rtl_resumes (h : PushesTo i s before [s.pbr, hiByte v, loByte v] { s with pbr := b, pc := w }) :
    ∃ t u : State, exec i s = .next t ∧ exec .rtl t = .next u ∧ { u with mem := s.mem } = { s with pc := v + 1 } := by
  obtain ⟨m, hexec, hpushed⟩ := exec_of_pushesTo hram h
  refine ⟨_, _, hexec, congrArg Host.Outcome.next (rtlOp_of_ram hram), ?_⟩
  have hsp := pullSp_of_pushed hpushed rfl hpin
  have hpc := pulledAt_of_pushed (front := [s.pbr]) hpushed rfl hpin hram rfl
  have hbank := byteOf_pullPlace_of_pushed hpushed rfl hpin hram (j := 0) (k := 2) rfl
  dsimp only [List.length_cons, List.length_nil, Nat.zero_add, Nat.reduceAdd] at hsp hpc hbank ⊢
  rw [hsp, hpc, pulled, hbank]
  rfl

end

/-- Settles O30: the return address is one below where the call resumes. -/
theorem callThenReturnResumesAfterCall : Obligations.CallThenReturnResumesAfterCall := by
  intro s w v hok hram
  obtain ⟨-, hcalls⟩ := callsPushTheirLastByte
  obtain ⟨hjsr, hjsrX, hjsl⟩ := hcalls s w v
  have hpin := pinStack_of_emulationOk hok
  have hnear : s.pc + 2 + 1 = s.pc + 3 := BitVec.add_assoc _ _ _
  have hfar : s.pc + 3 + 1 = s.pc + 4 := BitVec.add_assoc _ _ _
  exact ⟨hnear ▸ rts_resumes hram hpin hjsr, hnear ▸ rts_resumes hram hpin hjsrX, hfar ▸ rtl_resumes hram hpin hjsl⟩

end Sys2Proof.Machine
end

section
/-! PROOFS. The instructions that push (R342-R351). -/

namespace Sys2Proof.Machine

open Sys2Proof.Claims

/-! ### The status byte -/

/-- Eight flags, each at its bit, are the sum of their bits. -/
theorem or_flagBit_eq_sum : ∀ n v m x d i z c : Bool,
    flagBit n 7 ||| flagBit v 6 ||| flagBit m 5 ||| flagBit x 4 ||| flagBit d 3 ||| flagBit i 2 ||| flagBit z 1 |||
      flagBit c 0 =
    BitVec.ofNat 8 (128 * n.toNat + 64 * v.toNat + 32 * m.toNat + 16 * x.toNat + 8 * d.toNat + 4 * i.toNat +
      2 * z.toNat + c.toNat) := by
  decide

theorem pack_eq_statusByte (p : Flags) (bit4 : Bool) : p.pack bit4 = statusByte p bit4 := or_flagBit_eq_sum ..

/-! ### Pushes of a value -/

theorem push16_eq_pushes (s : State) (v : Word) : s.push16 v = s.pushes [hiByte v, loByte v] := rfl

theorem pushAt_ofFlag (s : State) (narrow : Bool) (v : Word) :
    s.pushAt (Width.ofFlag narrow) v = s.pushes (pushBytes narrow v) := by
  cases narrow <;> rfl

theorem pushBytes_length_le (narrow : Bool) (v : Word) : (pushBytes narrow v).length ≤ 256 := by
  cases narrow <;> simp [pushBytes]

/-- PC moved past the instruction after a run of pushes, which leaves PBR and PC alone (R38, R91). -/
theorem pushes_advance (s : State) (bytes : List Byte) (n : Nat) :
    (s.pushes bytes).advance n = { s.pushes bytes with pbr := s.pbr, pc := s.pc + BitVec.ofNat 16 n } := by
  rw [← performed_nil s, pushes_performed, performed_eq]
  simp [State.advance]

/-- An instruction that reads, then pushes, then moves PC past its bytes. -/
theorem pushesTo_of_advance {i : Instr} {s : State} (reads : List Addr) {bytes : List Byte} (n : Nat)
    (hlen : bytes.length ≤ 256) (hexec : exec i s = .next (((s.noteReads reads).pushes bytes).advance n)) :
    PushesTo i s (reads.map BusEvent.read) bytes { s with pc := s.pc + BitVec.ofNat 16 n } := by
  rw [pushes_advance, noteReads_pbr, noteReads_pc] at hexec
  exact pushesTo_of_pushes reads hlen hexec

/-- A register push at a width (R342-R344). -/
theorem pushesTo_of_pushAt {i : Instr} {s : State} {narrow : Bool} {v : Word}
    (hexec : exec i s = .next ((s.pushAt (Width.ofFlag narrow) v).advance 1)) :
    PushesTo i s [] (pushBytes narrow v) { s with pc := s.pc + 1 } :=
  pushesTo_of_advance [] 1 (pushBytes_length_le narrow v) (pushAt_ofFlag s narrow v ▸ hexec)

/-- Settles O31: the bytes of each register are pushed in a run, and PC moves by one. -/
theorem registerPushes : Obligations.RegisterPushes := by
  refine ⟨rfl, fun s => ?_⟩
  intro after
  refine ⟨pushesTo_of_pushAt rfl, pushesTo_of_pushAt rfl, pushesTo_of_pushAt rfl, ?_, ?_, ?_, ?_⟩
  · exact pushesTo_of_advance [] 1 (by simp) rfl
  · exact pushesTo_of_advance [] 1 (by simp) rfl
  · exact pushesTo_of_advance [] 1 (by simp) rfl
  · rw [← pack_eq_statusByte]
    exact pushesTo_of_advance [] 1 (by simp) rfl

/-- PEI pushes the bytes of the pointer at its direct address (R350). -/
theorem exec_pei (s : State) (ll : Byte) {o : Nat} (h : s.directAddr 0xD4 ll 0 = inBank 0 o 0) :
    exec (.pei ll) s = .next (((s.noteReads [inBank 0 o 0, inBank 0 o 1]).pushes
      [byteOf s [] (inBank 0 o) 1, byteOf s [] (inBank 0 o) 0]).advance 2) := by
  show Host.Outcome.next (peiOp 0xD4 ll s) = _
  rw [peiOp, pointer16_eq_valueOf h, pointerBytes16_eq h, push16_eq_pushes, valueOf, if_neg Bool.false_ne_true,
    hiByte_wordOf, loByte_wordOf]

/-- Settles O32: PEI reads its pointer and then pushes it, PER pushes the Relative16 target. -/
theorem addressPushes : Obligations.AddressPushes := by
  refine ⟨fun _ _ => rfl, fun s w ll => ?_⟩
  intro ptr target
  have hptr : s.directAddr 0xD4 ll 0 = ptr 0 := directAddr_eq_inBank s 0xD4 ll 0
  have htarget : rel16Target s.pc w = target := rel16Target_eq s.pc w
  refine ⟨pushesTo_of_advance [] 3 (by simp) rfl, ?_, ?_⟩
  · exact pushesTo_of_advance [ptr 0, ptr 1] 2 (by simp) (exec_pei s ll hptr)
  · rw [← htarget]
    exact pushesTo_of_advance [] 3 (by simp) rfl

end Sys2Proof.Machine
end

section
/-! PROOFS. The instructions that pull (R352-R357). -/

namespace Sys2Proof.Machine

open Sys2Proof.Claims

/-! ### Pulls of a value -/

theorem bytesOf_pos (narrow : Bool) : 0 < bytesOf narrow := by cases narrow <;> decide

theorem pulledAt_true (s : State) : pulledAt s true = zextByte (pulled s 1) := rfl

theorem pullAt_ofFlag (s : State) (narrow : Bool) :
    s.pullAt (Width.ofFlag narrow) = (pulledAt s narrow, s.pulls (bytesOf narrow)) := by
  cases narrow with
  | false => exact pull16_eq s
  | true => exact Prod.ext (congrArg zextByte (pull8_pulls_value s 0)) rfl

theorem atWidth_zextByte (b : Byte) : atWidth true (zextByte b) = b.toNat := by rw [atWidth_true, loByte_zextByte]

theorem atWidth_pulledAt (s : State) (narrow : Bool) : atWidth narrow (pulledAt s narrow) = (pulledAt s narrow).toNat := by
  cases narrow with
  | false => exact atWidth_false _
  | true => rw [pulledAt_true, atWidth_zextByte, zextByte_toNat]

/-- An update after a run of pulls that does not meet memory: it is apart from the reads (R96). -/
theorem update_pulls_eq (s : State) {n : Nat} (hn : 0 < n) (update : State → State)
    (hmem : ∀ u m b, update { u with mem := m, bus := b } = { update u with mem := m, bus := b })
    (hpar : ∀ u, (update u).params = u.params) :
    update (s.pulls n) = performed (update { s with sp := pullSp s.p.e s.sp n }) (readsOf (pullPlace s) n) := by
  obtain ⟨n, rfl⟩ := Nat.exists_eq_succ_of_ne_zero hn.ne'
  rw [pulls_succ_eq, performed_update _ update (hmem _) (hpar _)]

/-- The end of a pull into the register that `set` writes: the register takes the value, n, z, PC follow (R352-R356). -/
def takePulled (set : State → Width → Word → State) (narrow : Bool) (v : Word) (s : State) : State :=
  ((set s (Width.ofFlag narrow) v).setNZ (Width.ofFlag narrow) v).advance 1

/-- A pull into the register that `set` writes (R352-R356). -/
def pullWith (set : State → Width → Word → State) (narrow : Bool) (s : State) : State :=
  let r := s.pullAt (Width.ofFlag narrow)
  takePulled set narrow r.1 r.2

theorem pullWith_eq {set : State → Width → Word → State} (hset : WritesRegister set) (narrow : Bool) (s : State) :
    pullWith set narrow s =
      performed
        { set { s with sp := pullSp s.p.e s.sp (bytesOf narrow) } (Width.ofFlag narrow) (pulledAt s narrow) with
          p := nzOf s.p narrow (pulledAt s narrow).toNat, pc := s.pc + 1 }
        (readsOf (pullPlace s) (bytesOf narrow)) := by
  have hmem : ∀ (v : Word) (u : State) (m : Memory) (b : List BusEvent),
      takePulled set narrow v { u with mem := m, bus := b } = { takePulled set narrow v u with mem := m, bus := b } :=
    fun v u m b => by rw [takePulled, hset.memory]; rfl
  rw [pullWith, pullAt_ofFlag]
  dsimp only
  rw [update_pulls_eq s (bytesOf_pos narrow) _ (hmem _) fun u => hset.params u _ _, takePulled,
    setNZ_advance_one _ (atWidth_pulledAt s narrow), hset.p, hset.pc]

/-- PLB's write of DBR, the low byte of what is pulled (R355). -/
def State.setDbr (s : State) (_ : Width) (v : Word) : State := { s with dbr := loByte v }

/-- PLD's write of D (R356). -/
def State.setD (s : State) (_ : Width) (v : Word) : State := { s with d := v }

theorem setDbr_writesRegister : WritesRegister State.setDbr :=
  ⟨fun _ _ _ _ _ => rfl, fun _ _ _ => rfl, fun _ _ _ => rfl, fun _ _ _ => rfl⟩

theorem setD_writesRegister : WritesRegister State.setD :=
  ⟨fun _ _ _ _ _ => rfl, fun _ _ _ => rfl, fun _ _ _ => rfl, fun _ _ _ => rfl⟩

theorem plbOp_eq_pullWith (s : State) : plbOp s = pullWith State.setDbr true s := by
  have hdbr : ∀ u : State, ({ u with dbr := s.pull8.1 } : State) = u.setDbr .w8 (zextByte s.pull8.1) := fun u => by
    rw [State.setDbr, loByte_zextByte]
  rw [plbOp, hdbr]
  rfl

/-- Settles O33: a pull into each of the five registers. -/
theorem registerPulls : Obligations.RegisterPulls := by
  refine ⟨rfl, fun s => ?_⟩
  intro pulls
  have hplb := (plbOp_eq_pullWith s).trans (pullWith_eq setDbr_writesRegister true s)
  rw [pulledAt_true, State.setDbr, loByte_zextByte, zextByte_toNat] at hplb
  simp only [← merge_ofFlag]
  exact ⟨congrArg _ (pullWith_eq setA_writesRegister s.p.m s), congrArg _ (pullWith_eq setX_writesRegister s.p.x s),
    congrArg _ (pullWith_eq setY_writesRegister s.p.x s), congrArg _ hplb,
    congrArg _ (pullWith_eq setD_writesRegister false s)⟩

/-! ### PLP -/

theorem getLsbD_eq_bitOf (k : Byte) (j : Nat) : k.getLsbD j = bitOf k j := by
  rw [BitVec.getLsbD, Nat.testBit_eq_decide_div_mod_eq]
  rfl

theorem unpack_eq_flagsOfByte (p : Flags) (k : Byte) : p.unpack k = flagsOfByte p k := by
  simp only [Flags.unpack, flagsOfByte, getLsbD_eq_bitOf]

theorem unpack_eq_settled (s : State) (k : Byte) : s.unpack k = settled { s with p := flagsOfByte s.p k } := by
  rw [State.unpack, fixWidths_eq, unpack_eq_flagsOfByte]
  rfl

theorem plpOp_eq (s : State) :
    plpOp s =
      performed (settled { s with p := flagsOfByte s.p (pulled s 1), sp := pullSp s.p.e s.sp 1, pc := s.pc + 1 })
        (readsOf (pullPlace s) 1) := by
  have hvalue : s.pull8.1 = pulled s 1 := pull8_pulls_value s 0
  rw [plpOp, hvalue, unpack_eq_settled]
  exact update_pulls_eq s Nat.one_pos (fun u => (settled { u with p := flagsOfByte u.p (pulled s 1) }).advance 1)
    (fun _ _ _ => rfl) (fun _ => rfl)

/-- Settles O34: one pull, and the width effects on the flags of its byte. -/
theorem plpReplacesFlags : Obligations.PlpReplacesFlags := ⟨rfl, fun s => congrArg Host.Outcome.next (plpOp_eq s)⟩

end Sys2Proof.Machine
end

section
/-! PROOFS. A push and the pull that follows it, in plain RAM (R358). -/

namespace Sys2Proof.Machine

open Sys2Proof.Claims

/-! ### What comes back -/

theorem merge_trunc_self (w : Width) (v : Word) : w.merge v (w.trunc v) = v := by
  cases w with
  | w8 => rw [Width.trunc, Width.merge, loByte_zextByte, wordOf_hi_lo]
  | w16 => rfl

theorem trunc_zextByte (b : Byte) : (Width.ofFlag true).trunc (zextByte b) = zextByte b :=
  congrArg zextByte (loByte_zextByte b)

theorem pushBytes_zextByte (b : Byte) : pushBytes true (zextByte b) = [b] := congrArg (fun k => [k]) (loByte_zextByte b)

theorem getElem_flagBit (f : Bool) (k : Nat) {j : Nat} (hj : j < 8) : (flagBit f k)[j] = (f && decide (k = j)) := by
  cases f with
  | false => exact BitVec.getElem_zero hj
  | true =>
    rw [flagBit, if_pos rfl, ← BitVec.getLsbD_eq_getElem, BitVec.getLsbD_ofNat, Nat.testBit_two_pow, decide_eq_true hj]

/-- The status byte holds the flags it is packed from (R45, R46). -/
theorem flagsOfByte_statusByte (p : Flags) (bit4 : Bool) : flagsOfByte p (statusByte p bit4) = p := by
  rw [← pack_eq_statusByte, ← unpack_eq_flagsOfByte]
  obtain ⟨c, z, n, v, d, i, b, e, m, x⟩ := p
  cases e <;> simp [Flags.unpack, Flags.pack, getElem_flagBit]

/-- In a state that keeps R49 and R50 the width effects change nothing. -/
theorem settled_of_ok {s : State} (h1 : s.emulationOk = true) (h2 : s.indexOk = true) : settled s = s :=
  (fixWidths_eq s).symm.trans (fixWidths_of_ok s h1 h2)

/-- The value pulled is the value pushed at the width (R342, R352). -/
theorem pulledAt_of_pushed_pushBytes {s t : State} {narrow : Bool} {v : Word} (h : Pushed s t (pushBytes narrow v))
    (he : t.p.e = s.p.e) (hpin : pinStack s.p.e s.sp = s.sp) (hram : t.params.memory = .ram) :
    pulledAt t narrow = (Width.ofFlag narrow).trunc v := by
  cases narrow with
  | false => exact pulledAt_of_pushed (front := []) h he hpin hram rfl
  | true => exact congrArg zextByte (byteOf_pullPlace_of_pushed h he hpin hram (j := 0) (k := 0) rfl)

/-! ### A push and its pull -/

theorem add_one_add_one (v : Word) : v + 1 + 1 = v + 2 := BitVec.add_assoc v 1 1

section

variable {s : State} {push pull : Instr} (hram : s.params.memory = .ram)

include hram

/-- A pull into a register takes back what was pushed of it at its width, and n and z tell of it. -/
theorem pullWith_restores {set : State → Width → Word → State} (hset : WritesRegister set) {narrow : Bool} {v : Word}
    (hpin : pinStack s.p.e s.sp = s.sp)
    (hself : ∀ q m, set { s with pc := q, mem := m } (Width.ofFlag narrow) ((Width.ofFlag narrow).trunc v) =
      { s with pc := q, mem := m })
    (hpush : PushesTo push s [] (pushBytes narrow v) { s with pc := s.pc + 1 })
    (hpull : ∀ t : State, t.p = s.p → exec pull t = .next (pullWith set narrow t)) :
    ∃ t u : State, exec push s = .next t ∧ exec pull t = .next u ∧
      { u with mem := s.mem } = { s with p := nzOf s.p narrow (atWidth narrow v), pc := s.pc + 2 } := by
  obtain ⟨m, hexec, hpushed⟩ := exec_of_pushesTo hram (b := s.pbr) hpush
  have hlen : (pushBytes narrow v).length = bytesOf narrow := by cases narrow <;> rfl
  have hsp := pullSp_of_pushed hpushed rfl hpin
  have hvalue := pulledAt_of_pushed_pushBytes hpushed rfl hpin hram
  refine ⟨_, _, hexec, hpull _ rfl, ?_⟩
  rw [pullWith_eq hset, hvalue, ← hlen]
  dsimp only at hsp ⊢
  rw [hsp, hself, performed_readsOf_of_ram _ (by exact hram), trunc_ofFlag_toNat, add_one_add_one]

/-- PLP takes back the flags pushed; the width effects find them in force already (R47, R49, R50). -/
theorem plp_restores (hemu : s.emulationOk = true) (hidx : s.indexOk = true) {bit4 : Bool}
    (hpush : PushesTo push s [] [statusByte s.p bit4] { s with pc := s.pc + 1 }) :
    ∃ t u : State, exec push s = .next t ∧ exec .plp t = .next u ∧
      { u with mem := s.mem } = { s with pc := s.pc + 2 } := by
  obtain ⟨m, hexec, hpushed⟩ := exec_of_pushesTo hram (b := s.pbr) hpush
  have hpin := pinStack_of_emulationOk hemu
  have hsp := pullSp_of_pushed hpushed rfl hpin
  have hbyte := byteOf_pullPlace_of_pushed hpushed rfl hpin hram (j := 0) (k := 0) rfl
  refine ⟨_, _, hexec, congrArg Host.Outcome.next (plpOp_eq _), ?_⟩
  rw [pulled, hbyte, List.getD_cons_zero, flagsOfByte_statusByte]
  dsimp only [List.length_singleton] at hsp ⊢
  rw [hsp, settled_of_ok (by exact hemu) (by exact hidx), performed_readsOf_of_ram _ (by exact hram), add_one_add_one]

end

/-- Settles O35: the pull finds what its push left, and the register takes its own value back. -/
theorem pushThenPullRoundTrips : Obligations.PushThenPullRoundTrips := by
  intro s hemu hidx hram back
  obtain ⟨-, hpushes⟩ := registerPushes
  obtain ⟨hpha, hphx, hphy, hphb, hphd, -, hphp⟩ := hpushes s
  have hpin := pinStack_of_emulationOk hemu
  refine ⟨?_, ?_, ?_, ?_, ?_, plp_restores hram hemu hidx hphp⟩
  · refine pullWith_restores hram setA_writesRegister hpin (fun _ _ => ?_) hpha fun _ ht => ht ▸ rfl
    rw [State.setA, merge_trunc_self]
  · refine pullWith_restores hram setX_writesRegister hpin (fun _ _ => ?_) hphx fun _ ht => ht ▸ rfl
    rw [State.setX, merge_trunc_self]
  · refine pullWith_restores hram setY_writesRegister hpin (fun _ _ => ?_) hphy fun _ ht => ht ▸ rfl
    rw [State.setY, merge_trunc_self]
  · rw [← atWidth_zextByte]
    rw [← pushBytes_zextByte] at hphb
    refine pullWith_restores hram setDbr_writesRegister hpin (fun _ _ => ?_) hphb fun t _ =>
      congrArg _ (plbOp_eq_pullWith t)
    rw [State.setDbr, trunc_zextByte, loByte_zextByte]
  · rw [← atWidth_false s.d]
    exact pullWith_restores hram setD_writesRegister hpin (fun _ _ => rfl) hphd fun _ _ => rfl

end Sys2Proof.Machine
end

section
/-! PROOFS. The flag, mode and halt instructions (R381-R391, R393, R394). -/

namespace Sys2Proof.Machine

open Sys2Proof.Claims

/-- Settles O36: each of the ten is one field's update and PC + 1. -/
theorem flagNopAndHaltInstructions : Obligations.FlagNopAndHaltInstructions :=
  ⟨rfl, fun _ => ⟨rfl, rfl, rfl, rfl, rfl, rfl, rfl, rfl, rfl, rfl⟩⟩

/-! ### REP and SEP -/

/-- The width effects do not meet PC (R47). -/
theorem fixWidths_advance (s : State) (n : Nat) : s.fixWidths.advance n = settled (s.advance n) := by
  rw [fixWidths_eq]
  rfl

/-- REP's mask: a flag stays set where its bit is 0 (R388). -/
theorem setMask_false (p : Flags) (k : Byte) :
    p.setMask k false =
      { p with n := p.n && !bitOf k 7, v := p.v && !bitOf k 6, m := p.m && !bitOf k 5, x := p.x && !bitOf k 4,
               d := p.d && !bitOf k 3, i := p.i && !bitOf k 2, z := p.z && !bitOf k 1, c := p.c && !bitOf k 0 } := by
  have hsel : ∀ sel old : Bool, (if sel then false else old) = (old && !sel) := by decide
  simp only [Flags.setMask, hsel, getLsbD_eq_bitOf]

/-- SEP's mask: a flag is set where its bit is 1 (R389). -/
theorem setMask_true (p : Flags) (k : Byte) :
    p.setMask k true =
      { p with n := p.n || bitOf k 7, v := p.v || bitOf k 6, m := p.m || bitOf k 5, x := p.x || bitOf k 4,
               d := p.d || bitOf k 3, i := p.i || bitOf k 2, z := p.z || bitOf k 1, c := p.c || bitOf k 0 } := by
  have hsel : ∀ sel old : Bool, (if sel then true else old) = (old || sel) := by decide
  simp only [Flags.setMask, hsel, getLsbD_eq_bitOf]

/-- Settles O37: the mask on the flags, then the width effects. -/
theorem repSepMaskFlags : Obligations.RepSepMaskFlags := by
  refine ⟨fun _ => rfl, fun s k => ?_⟩
  rw [← setMask_false, ← setMask_true]
  exact ⟨congrArg Host.Outcome.next (fixWidths_advance _ 2), congrArg Host.Outcome.next (fixWidths_advance _ 2)⟩

/-! ### XCE -/

theorem zextByte_loByte_eq_ofNat (v : Word) : zextByte (loByte v) = BitVec.ofNat 16 (v.toNat % 256) := by
  apply BitVec.eq_of_toNat_eq
  rw [zextByte_toNat, loByte_toNat, BitVec.toNat_ofNat]
  omega

theorem pageOne_loByte_eq_ofNat (v : Word) : wordOf 0x01 (loByte v) = BitVec.ofNat 16 (256 + v.toNat % 256) := by
  apply BitVec.eq_of_toNat_eq
  rw [wordOf_toNat, loByte_toNat, BitVec.toNat_ofNat, show (0x01 : Byte).toNat = 1 from rfl]
  omega

/-- An index register after a set x has cleared its high byte (R47). -/
theorem narrowed_eq_ofNat (narrow : Bool) (v : Word) :
    (if narrow then zextByte (loByte v) else v) = BitVec.ofNat 16 (if narrow then v.toNat % 256 else v.toNat) := by
  cases narrow with
  | false => simp
  | true => exact zextByte_loByte_eq_ofNat v

theorem xceOp_eq (s : State) :
    xceOp s = settled { s with p := { s.p with c := s.p.e, e := s.p.c }, pc := s.pc + 1 } :=
  fixWidths_advance _ 1

/-- Settles O38: the width effects under the new e, which is the old carry. -/
theorem xceExchangesCarryAndEmulation : Obligations.XceExchangesCarryAndEmulation := by
  refine ⟨rfl, fun s => ⟨fun hc => ?_, fun hc => ?_⟩⟩
  · refine (congrArg Host.Outcome.next (xceOp_eq s)).trans ?_
    rw [hc, ← zextByte_loByte_eq_ofNat, ← zextByte_loByte_eq_ofNat, ← pageOne_loByte_eq_ofNat]
    rfl
  · refine (congrArg Host.Outcome.next (xceOp_eq s)).trans ?_
    rw [hc, ← narrowed_eq_ofNat, ← narrowed_eq_ofNat]
    rfl

end Sys2Proof.Machine
end

section
/-! PROOFS. Trap entry and the return from a trap (R395-R397, R440, R443). -/

namespace Sys2Proof.Machine

open Sys2Proof.Claims

/-! ### Entry -/

theorem breakAfter_eq (p : Flags) (kind : TrapKind) : breakAfter p kind = if p.e then kind.isSoftware else p.b := by
  cases kind <;> rfl

theorem vectorAddr_toNat (v : Vectors) (kind : TrapKind) (e : Bool) : (vectorAddr v kind e).toNat = vectorOf v kind e := by
  cases kind <;> cases e <;> rfl

/-- The bytes an entry pushes, in order (R440). -/
def trapFrame (s : State) (kind : TrapKind) : List Byte :=
  (if s.p.e then [] else [s.pbr]) ++ [hiByte s.pc, loByte s.pc, statusByte s.p (breakAfter s.p kind)]

/-- The state whose flags have b as an entry leaves it (R48). -/
def withBreak (s : State) (kind : TrapKind) : State := { s with p := { s.p with b := breakAfter s.p kind } }

/-- The frame is a run of pushes, and b may as well be written before it (R440). -/
theorem pushFrame_eq_pushes (s : State) (kind : TrapKind) :
    s.pushFrame kind = (withBreak s kind).pushes (trapFrame s kind) := by
  rw [trapFrame, ← pack_eq_statusByte, withBreak, breakAfter_eq]
  obtain ⟨a, x, y, sp, d, dbr, pbr, pc, ⟨c, z, n, v, pd, i, b, e, m, px⟩, run, cyc, er, np, il, mem, bus, draws, par⟩ := s
  cases e with
  | false => rfl
  | true => rfl

/-- A value read after more accesses (R96). -/
theorem valueOf_performed (s : State) (events before : List BusEvent) (narrow : Bool) (place : Nat → Addr) :
    valueOf (performed s events) narrow before place = valueOf s narrow (events ++ before) place := by
  simp only [valueOf, byteOf, byteAfter, ← performed_append, List.append_assoc]

/-- A value read depends on memory, its history and its kind only (R81). -/
theorem valueOf_congr {s t : State} (hmem : s.mem = t.mem) (hbus : s.bus = t.bus)
    (hkind : s.params.memory = t.params.memory) (narrow : Bool) (before : List BusEvent) (place : Nat → Addr) :
    valueOf s narrow before place = valueOf t narrow before place := by
  have hload : ∀ events q, (performed s events).load q = (performed t events).load q := fun events q => by
    obtain ⟨hmem', hbus'⟩ := performed_congr hmem hbus hkind events
    exact load_congr hmem' hbus' (by simpa using hkind) q
  simp only [valueOf, byteOf, byteAfter, hload]

/-- The registers and flags with the frame pushed (R440). -/
def framed (s : State) (kind : TrapKind) : State :=
  { withBreak s kind with sp := pushSp s.p.e s.sp (trapFrame s kind).length }

/-- Pushing the frame, as the accesses it makes (R440). -/
theorem pushFrame_eq_performed (s : State) (kind : TrapKind) :
    s.pushFrame kind = performed (framed s kind) (pushWrites s (trapFrame s kind)) := by
  have hpushes := pushes_performed (withBreak s kind) [] (trapFrame s kind)
  rw [performed_nil, ← pushFrame_eq_pushes] at hpushes
  exact hpushes

/-- The place of a vector in bank 0 (R443). -/
theorem vectorPlace_eq (v : Vectors) (kind : TrapKind) (e : Bool) :
    addrOf 0 (vectorAddr v kind e) = inBank 0 (vectorOf v kind e) 0 := by
  rw [addrOf_eq_inBank, vectorAddr_toNat]

/-- The end of an entry: i set, d cleared, PBR zero, and PC from the vector (R440). -/
def takeVector (v : Word) (s : State) : State := { s with p := { s.p with i := true, d := false }, pbr := 0, pc := v }

/-- Trap entry is the frame, the vector's reads and the vector taken (R440). -/
theorem enter_eq_takeVector (s : State) (kind : TrapKind) :
    let vec := inBank 0 (vectorOf s.params.vectors kind s.p.e)
    s.enter kind =
      takeVector ((s.pushFrame kind).pointer16 (vec 0)) ((s.pushFrame kind).noteReads (pointerBytes16 (vec 0))) := by
  intro vec
  have hparams : (s.pushFrame kind).params = s.params := by rw [pushFrame_eq]
  have hvec : addrOf 0 (vectorAddr (s.pushFrame kind).params.vectors kind s.p.e) = vec 0 :=
    hparams ▸ vectorPlace_eq s.params.vectors kind s.p.e
  rw [← hvec]
  rfl

/-- Trap entry as the accesses it makes: the vector is read after the pushes (R440). -/
theorem enter_eq_performed (s : State) (kind : TrapKind) :
    let pushes := pushWrites s (trapFrame s kind)
    let vec := inBank 0 (vectorOf s.params.vectors kind s.p.e)
    s.enter kind = performed (takeVector (valueOf s false pushes vec) (framed s kind)) (pushes ++ readsOf vec 2) := by
  intro pushes vec
  have hvalue : valueOf (framed s kind) false pushes vec = valueOf s false pushes vec :=
    valueOf_congr (s := framed s kind) (t := s) rfl rfl rfl false pushes vec
  rw [enter_eq_takeVector, pushFrame_eq_performed, pointer16_eq_valueOf rfl, valueOf_performed, List.append_nil, hvalue,
    noteReads_pointer16 rfl, ← performed_append]
  exact (performed_update _ (takeVector _) (fun _ _ => rfl) rfl _).symm

/-- Every entry is `Enter(kind)`: in plain RAM its pushes fill their slots, and the rest of it does not meet memory. -/
theorem enters_enter (s : State) (kind : TrapKind) : Enters s (s.enter kind) kind := by
  refine ⟨enter_eq_performed s kind, fun hram => ?_⟩
  have hlen : (trapFrame s kind).length ≤ 256 := by
    unfold trapFrame
    split <;> simp
  have hpushed := pushed_pushes (withBreak s kind) (trapFrame s kind) hram hlen
  rw [← pushFrame_eq_pushes] at hpushed
  rw [enter_eq_takeVector, noteReads_of_ram _ _ (by rw [pushFrame_eq]; exact hram)]
  exact hpushed

/-- Settles O40: both instructions skip the signature and enter as every trap does. -/
theorem softwareTrapsEnter : Obligations.SoftwareTrapsEnter :=
  ⟨fun _ => rfl, fun s _ => ⟨⟨_, rfl, enters_enter (s.advance 2) .brk⟩, ⟨_, rfl, enters_enter (s.advance 2) .cop⟩,
    enters_enter s⟩⟩

/-! ### Return -/

theorem pinStack_pinStack (e : Bool) (v : Word) : pinStack e (pinStack e v) = pinStack e v := by
  cases e with
  | false => rfl
  | true => rw [pinStack_emulation, loByte_pinStack, pinStack_emulation]

/-- In emulation mode every pull pins SP, so it does not matter that R47 pins it before. -/
theorem pull8_unpack (s : State) (k : Byte) : (s.unpack k).pull8 = (s.pull8.1, s.pull8.2.unpack k) := by
  have hsp : pinStack s.p.e (pinStack s.p.e s.sp + 1) = pinStack s.p.e (s.sp + 1) := pinStack_pinStack_add ..
  have hbefore : (s.unpack k).pull8 = (s.load (addrOf 0 (pinStack s.p.e (pinStack s.p.e s.sp + 1))),
      { s.unpack k with
        sp := pinStack s.p.e (pinStack s.p.e s.sp + 1)
        bus := s.record (.read (addrOf 0 (pinStack s.p.e (pinStack s.p.e s.sp + 1)))) }) := by
    rw [unpack_eq_settled]
    rfl
  have hafter : s.pull8.2.unpack k =
      { s.unpack k with
        sp := pinStack s.p.e (pinStack s.p.e (s.sp + 1))
        bus := s.record (.read (addrOf 0 (pinStack s.p.e (s.sp + 1)))) } := by
    rw [unpack_eq_settled, unpack_eq_settled]
    rfl
  rw [hbefore, hafter, hsp, pinStack_pinStack]
  rfl

theorem pull16_unpack (s : State) (k : Byte) : (s.unpack k).pull16 = (s.pull16.1, s.pull16.2.unpack k) := by
  simp only [State.pull16, pull8_unpack]

/-- The end of a return: the flags of the status byte with the width effects, and PBR:PC (R397). -/
def resumeAt (k : Byte) (b : Byte) (v : Word) (s : State) : State :=
  { settled { s with p := flagsOfByte s.p k } with pbr := b, pc := v }

/-- A return is its pulls, three in emulation mode and four in native mode, and then its end (R397). -/
theorem returnFromTrap_eq_resumeAt (s : State) :
    s.returnFromTrap =
      resumeAt (pulled s 1) (if s.p.e then s.pbr else pulled s 4) (wordOf (pulled s 3) (pulled s 2))
        (s.pulls (if s.p.e then 3 else 4)) := by
  have hstatus : s.pull8.1 = pulled s 1 := pull8_pulls_value s 0
  have hlow : s.pull8.2.pull8.1 = pulled s 2 := pull8_pulls_value s 1
  have hhigh : s.pull8.2.pull8.2.pull8.1 = pulled s 3 := pull8_pulls_value s 2
  have hbank : (s.pulls 3).pull8.1 = pulled s 4 := pull8_pulls_value s 3
  have hpc : (s.pull8.2.unpack (pulled s 1)).pull16 =
      (wordOf (pulled s 3) (pulled s 2), (s.pulls 3).unpack (pulled s 1)) := by
    rw [pull16_unpack, State.pull16, hlow, hhigh]
    rfl
  have hmode : ((s.pulls 3).unpack (pulled s 1)).p.e = s.p.e := by
    rw [unpack_p]
    rfl
  simp only [State.returnFromTrap, hstatus, hpc, hmode]
  split
  · rw [unpack_eq_settled]
    rfl
  · have hpull (v : Word) : ({ (s.pulls 3).unpack (pulled s 1) with pc := v } : State).pull8 =
        (pulled s 4, { (s.pulls 4).unpack (pulled s 1) with pc := v }) := by
      rw [← hbank]
      exact congrArg (fun r : Byte × State => (r.1, r.2.jump v)) (pull8_unpack (s.pulls 3) (pulled s 1))
    simp only [hpull]
    rw [unpack_eq_settled]
    rfl

theorem pinStack_pullSp (e : Bool) (sp : Word) (k : Nat) : pinStack e (pullSp e sp k) = pullSp e sp k := by
  rw [pullSp_eq, pinStack_pinStack]

/-- SP after the pulls is pinned in emulation mode, so that R47 leaves it there. -/
theorem resumeAt_pullSp (s : State) (k b : Byte) (v : Word) (n : Nat) :
    resumeAt k b v { s with sp := pullSp s.p.e s.sp n } =
      { settled { s with p := flagsOfByte s.p k } with sp := pullSp s.p.e s.sp n, pc := v, pbr := b } := by
  conv_rhs => rw [← pinStack_pullSp]
  rfl

/-- Settles O41: the end of the return does not meet memory, so it is apart from the reads of the pulls. -/
theorem rtiRestoresStatusAndPc : Obligations.RtiRestoresStatusAndPc := by
  refine ⟨rfl, fun s => ?_⟩
  intro n
  have hn : 0 < n := by
    unfold n
    split <;> decide
  show Host.Outcome.next s.returnFromTrap = _
  rw [returnFromTrap_eq_resumeAt, update_pulls_eq s hn (resumeAt _ _ _) (fun _ _ _ => rfl) (fun _ => rfl),
    resumeAt_pullSp]

end Sys2Proof.Machine
end

section
/-! PROOFS. The run state that a step leaves (R431, R434, R436, R447, R456). -/

namespace Sys2Proof.Machine

open Sys2Proof.Claims

/-- An instruction leaves the run state alone, halts, or faults (R392-R394). -/
theorem run_of_exec {i : Instr} {s u : State} (h : exec i s = .next u) :
    u.run = s.run ∨ (u.run = .halted ∧ (i = .wai ∨ i = .stp)) ∨
      (u.run = .faulted .unmappedOpcode s.pbr s.pc 0x42 ∧ (∃ sig, i = .wdm sig) ∧ s.params.wdm = .fault) := by
  by_cases hw : i.mnemonic.Writes .run
  · cases i with dsimp only [Instr.mnemonic, Instr.row] at hw
    | wai =>
      obtain rfl := Host.Outcome.next.inj h
      exact .inr (.inl ⟨rfl, .inl rfl⟩)
    | stp =>
      obtain rfl := Host.Outcome.next.inj h
      exact .inr (.inl ⟨rfl, .inr rfl⟩)
    | wdm sig =>
      cases hwdm : s.params.wdm with
      | fault =>
        obtain rfl := Host.Outcome.next.inj ((exec_wdm_of_fault hwdm).symm.trans h)
        exact .inr (.inr ⟨rfl, ⟨sig, rfl⟩, rfl⟩)
      | nop2 =>
        obtain rfl := Host.Outcome.next.inj ((exec_wdm_of_nop2 hwdm).symm.trans h)
        exact .inl rfl
    | _ => exact absurd hw (by decide)
  · exact .inl ((reaches_of_exec h).frame.run hw)

theorem enter_run (s : State) (kind : TrapKind) : (s.enter kind).run = s.run := by rw [enter_eq]

/-- A poll terminates on an exit request, or sets the core running, or leaves the run state alone; a core that it leaves halted
had no request (R436, R438). -/
theorem poll_run_cases (s : State) :
    (s.poll.run = .terminated ∧ s.exitRequest = true) ∨ s.poll.run = .running ∨
      (s.poll.run = s.run ∧ (s.run = .halted → s.exitRequest = false ∧ s.nmiPending = false ∧ s.irqLine = false)) := by
  unfold State.poll
  split
  next hexit => exact .inl ⟨rfl, hexit⟩
  next hexit =>
    split
    next => exact .inr (.inl (enter_run _ _))
    next hnmi =>
      split
      next => exact .inr (.inl (enter_run _ _))
      next =>
        split
        next => exact .inr (.inl rfl)
        next hirq => exact .inr (.inr ⟨rfl, fun hrun =>
          ⟨by simpa using hexit, by simpa using hnmi, by simpa [hrun] using hirq⟩⟩)

/-- The end of a step terminates on an exit request, or sets the core running, or leaves the run state alone (R431, R436). -/
theorem endOfStep_run_cases (s : State) :
    (s.endOfStep.run = .terminated ∧ s.exitRequest = true) ∨ s.endOfStep.run = .running ∨ s.endOfStep.run = s.run := by
  rcases endOfStep_cases s with e | e | e <;> rw [e]
  · exact .inr (.inr rfl)
  · exact .inr (.inr rfl)
  · exact (poll_run_cases s.replenish).imp_right (Or.imp_right And.left)

/-- What has happened when a step leaves a run state (R456). -/
def LeftBecause (s : State) : RunState → Prop
  | .running => True
  | .halted => (s.run = .running ∧ (s.fetch = .wai ∨ s.fetch = .stp)) ∨
      (s.run = .halted ∧ s.exitRequest = false ∧ s.nmiPending = false ∧ s.irqLine = false)
  | .terminated => s.exitRequest = true
  | .faulted k b o c => s.run = .running ∧ (∃ sig : Byte, s.fetch = .wdm sig) ∧ s.params.wdm = .fault ∧
      k = .unmappedOpcode ∧ b = s.pbr ∧ o = s.pc ∧ c = 0x42

/-- The run state that an instruction of a Running step leaves (R456). -/
theorem leftBecause_of_exec {s u : State} (hrun : s.run = .running)
    (hu : exec s.fetch ((s.charge s.fetch.opcode).fetched (s.fetchLength s.fetch)) = .next u) : LeftBecause s u.run := by
  obtain h | ⟨h, hfetch⟩ | ⟨h, hfetch, hwdm⟩ := run_of_exec hu <;> rw [h]
  · rw [fetched_run, charge_run, hrun]
    trivial
  · exact .inl ⟨hrun, hfetch⟩
  · rw [fetched_pbr, fetched_pc]
    exact ⟨hrun, hfetch, by simpa using hwdm, rfl, rfl, rfl, rfl⟩

/-- Every step leaves a run state because of what R456 lists. -/
theorem leftBecause_of_step {s t : State} (h : step s = .next t) : LeftBecause s t.run := by
  obtain ⟨hrun, rfl⟩ | ⟨hrun, u, hu, rfl⟩ := step_next_cases h
  · obtain ⟨h, hexit⟩ | h | ⟨h, hquiet⟩ := poll_run_cases s <;> rw [h]
    · exact hexit
    · trivial
    · rw [hrun]
      exact .inr ⟨hrun, hquiet hrun⟩
  · obtain ⟨h, hexit⟩ | h | h := endOfStep_run_cases u <;> rw [h]
    · obtain ⟨hinput, -⟩ :=
        (keepsInputs_charge_fetched s _ _).trans (keepsInputs_of_loopInputs (loopInputs_of_exec hu))
      exact hinput.symm.trans hexit
    · trivial
    · exact leftBecause_of_exec hrun hu

/-- A step answers a next state from Running and Halted, and from no other run state (R431). -/
theorem step_next_iff (s : State) : (∃ t, step s = .next t) ↔ s.run = .running ∨ s.run = .halted := by
  constructor
  · rintro ⟨t, h⟩
    obtain ⟨hrun, -⟩ | ⟨hrun, -⟩ := step_next_cases h
    · exact .inr hrun
    · exact .inl hrun
  · rintro (hrun | hrun)
    · obtain ⟨u, hu, -⟩ := exec_reaches s.fetch ((s.charge s.fetch.opcode).fetched (s.fetchLength s.fetch))
      exact ⟨u.endOfStep, by rw [step_of_running s hrun, stepRunning, hu]⟩
    · exact ⟨s.poll, by rw [step, hrun]⟩

/-- Settles O48: each clause is the reason for the run state it names. -/
theorem runStateTransitions : Obligations.RunStateTransitions := by
  refine fun s => ⟨step_next_iff s, fun t hstep => ?_⟩
  have hleft := leftBecause_of_step hstep
  exact ⟨fun k b o c h => (h ▸ hleft :), fun h => (h ▸ hleft :), fun h => (h ▸ hleft :)⟩

end Sys2Proof.Machine
end

section
/-! PROOFS. A trap and the return from it, in plain RAM (R397, R440, R441, R444). -/

namespace Sys2Proof.Machine

open Sys2Proof.Claims

/-- In plain RAM an entry changes flags, SP, PBR, PC and cells only (R440). -/
theorem enter_of_ram {s : State} (hram : s.params.memory = .ram) (kind : TrapKind) : ∃ (v : Word) (m : Memory),
    s.enter kind = { takeVector v (framed s kind) with mem := m } :=
  ⟨_, _, (enter_eq_performed s kind).trans (performed_of_ram (takeVector _ (framed s kind)) hram _)⟩

/-- In plain RAM a return is its end alone, with SP at the last pull (R397). -/
theorem returnFromTrap_of_ram {s : State} (hram : s.params.memory = .ram) :
    s.returnFromTrap =
      { settled { s with p := flagsOfByte s.p (pulled s 1) } with
        sp := pullSp s.p.e s.sp (if s.p.e then 3 else 4), pc := wordOf (pulled s 3) (pulled s 2),
        pbr := if s.p.e then s.pbr else pulled s 4 } := by
  obtain ⟨-, hrti⟩ := rtiRestoresStatusAndPc
  refine (Host.Outcome.next.inj (hrti s)).trans ?_
  rw [performed_readsOf_of_ram]
  exact hram

theorem length_trapFrame (s : State) (kind : TrapKind) : (trapFrame s kind).length = if s.p.e then 3 else 4 := by
  unfold trapFrame
  cases s.p.e <;> rfl

/-- The status byte of a frame gives back the flags from before the entry, all but b (R45, R46, R440). -/
theorem flagsOfByte_entered (p : Flags) (b : Bool) :
    flagsOfByte { p with b := b, i := true, d := false } (statusByte p b) = { p with b := b } :=
  congrArg (fun q : Flags => { q with b := b }) (flagsOfByte_statusByte p b)

section

variable {s t : State} {kind : TrapKind} (h : Pushed s t (trapFrame s kind)) (he : t.p.e = s.p.e)
  (hpin : pinStack s.p.e s.sp = s.sp) (hram : t.params.memory = .ram)

include h he hpin hram

/-- The first three pulls after an entry give the status byte and the two bytes of PC (R440). -/
theorem pulled_of_entered :
    pulled t 1 = statusByte s.p (breakAfter s.p kind) ∧ pulled t 2 = loByte s.pc ∧ pulled t 3 = hiByte s.pc := by
  unfold trapFrame at h
  generalize (if s.p.e then [] else [s.pbr]) = front at h
  have hbyte (j k : Nat) (hjk : j + k = 2) :=
    byteOf_pullPlace_of_pushed h he hpin hram (j := front.length + j) (k := k) (by simp; omega)
  refine ⟨(hbyte 2 0 rfl).trans ?_, (hbyte 1 1 rfl).trans ?_, (hbyte 0 2 rfl).trans ?_⟩ <;> simp

/-- In native mode the fourth pull gives PBR (R440). -/
theorem pulled_of_entered_native (hnative : s.p.e = false) : pulled t 4 = s.pbr := by
  have hlen : (trapFrame s kind).length = 0 + (3 + 1) := by rw [length_trapFrame, hnative]; rfl
  refine (byteOf_pullPlace_of_pushed h he hpin hram hlen).trans ?_
  rw [trapFrame, hnative]
  rfl

/-- A return with the frame of an entry on top of the stack takes SP, PC and, in native mode, PBR from it (R397, R440). -/
theorem returnFromTrap_of_entered :
    t.returnFromTrap =
      { settled { t with p := flagsOfByte t.p (statusByte s.p (breakAfter s.p kind)) } with
        sp := s.sp, pc := s.pc, pbr := if s.p.e then t.pbr else s.pbr } := by
  obtain ⟨hstatus, hlow, hhigh⟩ := pulled_of_entered h he hpin hram
  have hsp := pullSp_of_pushed h he hpin
  rw [length_trapFrame, he] at hsp
  have hbank : (if s.p.e then t.pbr else pulled t 4) = if s.p.e then t.pbr else s.pbr := by
    cases hmode : s.p.e with
    | false => exact pulled_of_entered_native h he hpin hram hmode
    | true => rfl
  rw [returnFromTrap_of_ram hram, hstatus, hlow, hhigh, wordOf_hi_lo, he, hsp, hbank]

end

/-- The return from a trap undoes its entry but for b and, in emulation mode, PBR, which the frame does not hold (R441,
R444). -/
theorem returnFromTrap_enter {s : State} (hemu : s.emulationOk = true) (hidx : s.indexOk = true)
    (hram : s.params.memory = .ram) (kind : TrapKind) :
    { (s.enter kind).returnFromTrap with mem := s.mem } =
      { s with p := { s.p with b := breakAfter s.p kind }, pbr := if s.p.e then 0 else s.pbr } := by
  obtain ⟨-, hpushed⟩ := enters_enter s kind
  obtain ⟨v, m, henter⟩ := enter_of_ram hram kind
  have hreturn := returnFromTrap_of_entered (hpushed hram) (by rw [henter]; rfl) (pinStack_of_emulationOk hemu)
    (by rw [henter]; exact hram)
  have hflags : flagsOfByte (s.enter kind).p (statusByte s.p (breakAfter s.p kind)) =
      { s.p with b := breakAfter s.p kind } := by
    rw [henter]
    exact flagsOfByte_entered s.p _
  have hsettled := settled_of_ok (s := { s with p := { s.p with b := breakAfter s.p kind } }) hemu hidx
  rw [hreturn, hflags, henter]
  exact congrArg (fun u : State => { u with sp := s.sp, pbr := if s.p.e then 0 else s.pbr }) hsettled

/-- A software trap sets b in emulation mode and leaves it alone in native mode (R48). -/
theorem breakAfter_of_isSoftware (p : Flags) {kind : TrapKind} (hsoft : kind.isSoftware = true) :
    breakAfter p kind = (p.e || p.b) := by
  rw [breakAfter_eq, hsoft]
  cases p.e <;> rfl

/-- RTI resumes behind the signature of the instruction that entered a software trap (R395-R397). -/
theorem rti_resumes {s : State} (hemu : s.emulationOk = true) (hidx : s.indexOk = true) (hram : s.params.memory = .ram)
    {trap : Instr} {kind : TrapKind} (hsoft : kind.isSoftware = true)
    (hexec : exec trap s = .next ((s.advance 2).enter kind)) :
    ∃ t u : State, exec trap s = .next t ∧ exec .rti t = .next u ∧
      { u with mem := s.mem } =
        { s with p := { s.p with b := s.p.e || s.p.b }, pbr := if s.p.e then 0 else s.pbr, pc := s.pc + 2 } := by
  have hback := returnFromTrap_enter (s := s.advance 2) hemu hidx hram kind
  rw [advance_p, breakAfter_of_isSoftware s.p hsoft] at hback
  exact ⟨_, _, hexec, rfl, hback⟩

/-- Settles O42: BRK and COP enter a software trap with PC behind the signature, and the return undoes the entry. -/
theorem trapThenRtiResumes : Obligations.TrapThenRtiResumes :=
  fun _ _ hemu hidx hram =>
    ⟨rti_resumes hemu hidx hram (kind := .brk) rfl rfl, rti_resumes hemu hidx hram (kind := .cop) rfl rfl⟩

end Sys2Proof.Machine
end

section
/-! PROOFS. The poll (R436, R438), and a step by run state (R431, R451, R455). -/

namespace Sys2Proof.Machine

variable {s : State}

theorem poll_of_exit (hexit : s.exitRequest = true) : s.poll = { s with run := .terminated } := by
  rw [State.poll, if_pos hexit]

section

variable (hexit : s.exitRequest = false)

include hexit

theorem poll_of_nmi (hnmi : s.nmiPending = true) :
    s.poll = ({ s with nmiPending := false, run := .running } : State).enter .nmi := by
  rw [State.poll, if_neg (ne_true_of_eq_false hexit), if_pos hnmi]

variable (hnmi : s.nmiPending = false)

include hnmi

/-- With neither exit nor NMI the poll is about IRQ alone (R436). -/
theorem poll_of_no_exit_no_nmi :
    s.poll = if s.irqLine && !s.p.i then ({ s with run := .running } : State).enter .irq
      else if s.run = .halted ∧ s.irqLine = true then { s with run := .running } else s := by
  rw [State.poll, if_neg (ne_true_of_eq_false hexit), if_neg (ne_true_of_eq_false hnmi)]

variable (hirq : s.irqLine = true)

include hirq

theorem poll_of_irq (hi : s.p.i = false) : s.poll = ({ s with run := .running } : State).enter .irq := by
  rw [poll_of_no_exit_no_nmi hexit hnmi, if_pos (by rw [hirq, hi]; rfl)]

/-- A masked IRQ is not taken and wakes a halted core (R438). -/
theorem poll_of_masked_irq (hi : s.p.i = true) :
    s.poll = { s with run := if s.run = .halted then .running else s.run } := by
  rw [poll_of_no_exit_no_nmi hexit hnmi, if_neg (by rw [hirq, hi]; decide)]
  by_cases hrun : s.run = .halted
  · rw [if_pos ⟨hrun, hirq⟩, if_pos hrun]
  · rw [if_neg (mt And.left hrun), if_neg hrun]

end

/-- A poll with none of its three inputs raised does nothing (R436, R438, R455). -/
theorem poll_of_no_input (hexit : s.exitRequest = false) (hnmi : s.nmiPending = false) (hirq : s.irqLine = false) :
    s.poll = s :=
  poll_of_not_requested s (by rw [State.requested, hexit, hnmi, hirq]; rfl)

/-- Settles O45: the cases in the order in which the poll asks, and its entries are the entry of every trap. -/
theorem pollTakesExitThenNmiThenIrq : Obligations.PollTakesExitThenNmiThenIrq := by
  refine fun s => ⟨poll_of_exit, fun hexit hnmi => ?_, fun hexit hnmi hirq hi => ?_, poll_of_masked_irq,
    poll_of_no_input⟩
  · rw [poll_of_nmi hexit hnmi]
    exact enters_enter _ .nmi
  · rw [poll_of_irq hexit hnmi hirq hi]
    exact enters_enter _ .irq

/-- What neither a poll nor a trap entry touches (R436, R440). -/
def KeptByPoll (s t : State) : Prop :=
  t.cyc = s.cyc ∧ t.draws = s.draws ∧ t.a = s.a ∧ t.x = s.x ∧ t.y = s.y ∧ t.d = s.d ∧ t.dbr = s.dbr ∧
    t.params = s.params ∧ t.exitRequest = s.exitRequest ∧ t.irqLine = s.irqLine

theorem keptByPoll_enter (s : State) (kind : TrapKind) : KeptByPoll s (s.enter kind) := by
  rw [enter_eq]
  exact ⟨rfl, rfl, rfl, rfl, rfl, rfl, rfl, rfl, rfl, rfl⟩

theorem keptByPoll_poll (s : State) : KeptByPoll s s.poll := by
  have hrun (r : RunState) : KeptByPoll s { s with run := r } := ⟨rfl, rfl, rfl, rfl, rfl, rfl, rfl, rfl, rfl, rfl⟩
  rcases poll_cases s with e | e | e | e | e <;> rw [e]
  · exact hrun .terminated
  · exact keptByPoll_enter { s with nmiPending := false, run := .running } .nmi
  · exact keptByPoll_enter { s with run := .running } .irq
  · exact hrun .running
  · exact hrun s.run

/-- Settles O47: without a request the poll does nothing, and what it keeps an entry keeps too. -/
theorem stepByRunState : Obligations.StepByRunState :=
  fun s => ⟨fun h => by rw [step, h], poll_of_no_input, keptByPoll_poll s, fun h => by rw [step, h],
    fun _ _ _ _ h => by rw [step, h]⟩

end Sys2Proof.Machine
end

section
/-! PROOFS. Construction and the reset by the host (R481, R482). -/

namespace Sys2Proof.Machine

/-- R49 asks for nothing in native mode. -/
theorem emulationOk_of_native {s : State} (h : s.p.e = false) : s.emulationOk = true := by
  rw [State.emulationOk, h, Bool.not_false, Bool.true_or]

/-- R50 asks for nothing where the index registers are wide. -/
theorem indexOk_of_wide {s : State} (h : s.p.x = false) : s.indexOk = true := by
  rw [State.indexOk, h, Bool.not_false, Bool.true_or]

@[simp] theorem hostReset_pbr (s : State) : s.hostReset.pbr = bankOf s.params.entry := rfl
@[simp] theorem hostReset_pc (s : State) : s.hostReset.pc = offsetOf s.params.entry := rfl
@[simp] theorem hostReset_p (s : State) : s.hostReset.p = Flags.reset := rfl
@[simp] theorem hostReset_cyc (s : State) : s.hostReset.cyc = pollPeriod s.params := rfl

/-- Construction is a reset of what was constructed, with the fields that a reset keeps at their first values (R481). -/
theorem construct_eq_hostReset (par : Params) (mem0 : Memory) :
    State.construct par mem0 =
      { (State.construct par mem0).hostReset with
        mem := mem0, bus := [], draws := 0, exitRequest := false, irqLine := false } := rfl

/-- Settles O49: PBR:PC is the bank and offset of `P_ENTRY`, the poll period is positive, and no flag is set, so that R49 and
R50 ask for nothing. The other fields are zero, or the old state's, by the definition of a reset. -/
theorem resetState : Obligations.ResetState := by
  refine ⟨fun s => ?_, fun par mem0 => ⟨rfl, construct_eq_hostReset par mem0⟩⟩
  have hbank : s.hostReset.pbr.toNat = s.params.entry.toNat / 65536 := by rw [hostReset_pbr, bankOf_toNat]
  have hoffset : s.hostReset.pc.toNat = s.params.entry.toNat % 65536 := by rw [hostReset_pc, offsetOf_toNat]
  have hcyc : 0 < s.hostReset.cyc := by rw [hostReset_cyc]; exact pollPeriod_pos s.params
  have hemu : s.hostReset.emulationOk = true := emulationOk_of_native (congrArg Flags.e (hostReset_p s))
  have hidx : s.hostReset.indexOk = true := indexOk_of_wide (congrArg Flags.x (hostReset_p s))
  exact ⟨rfl, rfl, rfl, rfl, rfl, rfl, hbank, hoffset, hostReset_p s, rfl, hostReset_cyc s, hcyc, rfl, rfl, rfl,
    rfl, rfl, rfl, rfl, hemu, hidx⟩

end Sys2Proof.Machine
end
